-- ==== Sys2Proof/Word.lean ====
section
/-! DEFINITION. The widths of the block: bytes, byte strings and the 16-bit command word
(00_scope.md R9, R10; 30_encoding.md R80). -/

namespace Sys2Proof

/-- A byte: an unsigned 8-bit value, bit 7 the most significant (R9, R51). -/
abbrev Byte := BitVec 8

/-- A byte string: a finite sequence of bytes, indexed from 0 (R10). -/
abbrev Bytes := List Byte

/-- The command word CW of the command port (R80). -/
abbrev CmdWord := BitVec 16

end Sys2Proof
end

