-- ==== Sys2Proof/Syntax.lean ====
section
/-! DEFINITION. The instructions of the block (one constructor per row of spec/opcode_table.json), the
command as it stands on the command port, and the moves by which HOST and ENV act on the block
(00_scope.md R13; 20_memory.md R66; 30_encoding.md R80, R85; 42_command_catalog.md R180). -/

namespace Sys2Proof

/-- A track number, 1 to 3 (R7, R38). -/
inductive Track where
  | t1
  | t2
  | t3
deriving DecidableEq, Repr, Inhabited

/-- One operand string with its presence flag: `none` is P = 0, `some s` is P = 1 (R80, R95). -/
abbrev Operand := Option Bytes

/-- The three operand strings that travel beside a command word (R80). -/
structure Operands where
  a : Operand
  b : Operand
  c : Operand
deriving DecidableEq, Repr, Inhabited

/-- A command as HOST presents it on the command port (R80). -/
structure Command where
  cw : CmdWord
  ops : Operands
deriving DecidableEq, Repr, Inhabited

/-- The operation codes OP of the command word (R81). -/
inductive OpCode where
  | frame
  | unframe
  | send
  | receive
  | flush
  | normalize
  | validate
  | buildIso
  | buildRaw
  | parseIso
  | parseRaw
deriving DecidableEq, Repr

/-- The device commands of the catalog (42_command_catalog.md R181-R202). -/
inductive DevCmd where
  | devReset
  | testComm
  | testRam
  | testSensor
  | getFirmware
  | ledAllOff
  | ledAllOn
  | ledGreen
  | ledYellow
  | ledRed
  | readIso
  | readRaw
  | writeIso
  | writeRaw
  | erase
  | setHico
  | setLoco
  | getCoercivity
  | setBpi
  | setBpc
  | setLeadingZero
  | getLeadingZero
deriving DecidableEq, Repr

/-- The instructions. A command-port operation carries its three operands; NORMALIZE and VALIDATE also carry
the ARG byte, which their rows leave open (R82). A device command is the SEND whose operand A is its 2-byte
opcode; it carries SEND's operands B (the command's data) and C (ignored) (R180, R83). -/
inductive Instr where
  | frame (ops : Operands)
  | unframe (ops : Operands)
  | send (ops : Operands)
  | receive (ops : Operands)
  | flush (ops : Operands)
  | normalize (t : Byte) (ops : Operands)
  | validate (t : Byte) (ops : Operands)
  | buildIso (ops : Operands)
  | buildRaw (ops : Operands)
  | parseIso (ops : Operands)
  | parseRaw (ops : Operands)
  | devReset (data spare : Operand)
  | testComm (data spare : Operand)
  | testRam (data spare : Operand)
  | testSensor (data spare : Operand)
  | getFirmware (data spare : Operand)
  | ledAllOff (data spare : Operand)
  | ledAllOn (data spare : Operand)
  | ledGreen (data spare : Operand)
  | ledYellow (data spare : Operand)
  | ledRed (data spare : Operand)
  | readIso (data spare : Operand)
  | readRaw (data spare : Operand)
  | writeIso (data spare : Operand)
  | writeRaw (data spare : Operand)
  | erase (data spare : Operand)
  | setHico (data spare : Operand)
  | setLoco (data spare : Operand)
  | getCoercivity (data spare : Operand)
  | setBpi (data spare : Operand)
  | setBpc (data spare : Operand)
  | setLeadingZero (data spare : Operand)
  | getLeadingZero (data spare : Operand)
deriving DecidableEq, Repr

/-- An operand of a HOST line: absent `-`, a string, or `@RES`, for which HOST copies RES_BYTES of the previous
result when it presents the command (R85). -/
inductive HostOperand where
  | absent
  | bytes (s : Bytes)
  | res
deriving DecidableEq, Repr, Inhabited

/-- One line of a HOST program: a command word and its operands before `@RES` is resolved (R85). -/
structure HostCommand where
  cw : CmdWord
  a : HostOperand
  b : HostOperand
  c : HostOperand
deriving DecidableEq, Repr, Inhabited

/-- What HOST can read: MODE, the busy indication (R21), and the ten numbered fields of the result
register (R30). -/
inductive ReadSel where
  | mode
  | valid
  | op
  | status
  | ok
  | flag
  | err
  | count
  | bytes
  | pkts
  | recs
deriving DecidableEq, Repr

/-- ENV's answer to one `emit` (R12). -/
inductive EmitAnswer where
  | ok
  | fail
deriving DecidableEq, Repr

/-- One atomic step of one agent (R13, R66). -/
inductive Move where
  /-- HOST presents a command. -/
  | present (line : HostCommand)
  /-- HOST reads one field. -/
  | read (sel : ReadSel)
  /-- ENV appends an inbound report to IN_Q (R120). -/
  | append (r : Bytes)
  /-- ENV raises DEADLINE (R118). -/
  | deadline
  /-- BLOCK takes its enabled step; `ans` is ENV's answer if that step emits a report (R111). -/
  | block (ans : EmitAnswer)
  /-- The Link is opened again, which resets the block, with `q` standing in IN_Q (R260, R261). -/
  | linkOpen (q : List Bytes)
deriving DecidableEq, Repr, Inhabited

end Sys2Proof
end

