-- ==== Sys2Proof/Config.lean ====
section
/-! DEFINITION. What is fixed for the machine: the constants of 00_scope.md R7, the open parameters of R8 with
their defaults, and the free values (10_state.md R40; 00_scope.md R13). -/

namespace Sys2Proof.Config

/-- REPORT_SIZE (R7). -/
abbrev reportSize : Nat := 64

/-- MAX_FRAG (R7). -/
abbrev maxFrag : Nat := 63

/-- ESC (R7). -/
abbrev esc : Byte := 0x1B#8

/-- FS (R7). -/
abbrev fs : Byte := 0x1C#8

/-- VID, the Link's USB vendor id; informative, read by no rule (R7). -/
def vendorId : BitVec 16 := 0x0801#16

/-- PID, the Link's USB product id; informative, read by no rule (R7). -/
def productId : BitVec 16 := 0x0003#16

/-- The parameters that the source leaves open (R8); `none` is unbounded. -/
structure Params where
  maxLen1 : Nat
  maxLen2 : Nat
  maxLen3 : Nat
  maxPayload : Option Nat
  rxCap : Option Nat
  inqCap : Option Nat
  bpi1 : Nat
  bpi2 : Nat
  bpi3 : Nat
  bpc1 : Nat
  bpc2 : Nat
  bpc3 : Nat
deriving DecidableEq, Repr

/-- R8's defaults (92_eei_decisions.md D17, D23, D24, D39). -/
def defaultParams : Params where
  maxLen1 := 79
  maxLen2 := 40
  maxLen3 := 107
  maxPayload := none
  rxCap := none
  inqCap := none
  bpi1 := 210
  bpi2 := 75
  bpi3 := 210
  bpc1 := 7
  bpc2 := 5
  bpc3 := 5

/-- FREE VALUE (log 6): the reports that stand in IN_Q at reset, which R40 leaves unspecified. -/
opaque launchInQ : List Bytes

/-- FREE VALUE (log 3): the moves of the agents after the agenda's end; HOST's and ENV's choices are free
(R13, R66). -/
opaque freeMove : Nat → Move

end Sys2Proof.Config
end

