-- ==== Sys2Proof/Decode.lean ====
section
/-! DEFINITION. The decoder of the command port, total on every command and rejecting by name, and after it the
encoder (30_encoding.md R80-R84; 42_command_catalog.md R180-R202). -/

namespace Sys2Proof

/-- CW[15:8] (R80). -/
def Command.op (c : Command) : Byte := c.cw.extractLsb' 8 8

/-- CW[7:0] (R80). -/
def Command.arg (c : Command) : Byte := c.cw.extractLsb' 0 8

/-- The command word with the given OP and ARG (R80). -/
def mkWord (op arg : Byte) : CmdWord := op ++ arg

/-- The number of an operation code (R81). -/
def OpCode.code : OpCode → Byte
  | .frame => 0x01#8
  | .unframe => 0x02#8
  | .send => 0x03#8
  | .receive => 0x04#8
  | .flush => 0x05#8
  | .normalize => 0x10#8
  | .validate => 0x11#8
  | .buildIso => 0x12#8
  | .buildRaw => 0x13#8
  | .parseIso => 0x14#8
  | .parseRaw => 0x15#8

/-- The operation with a given OP; every other OP value is reserved (R81). -/
def OpCode.ofByte (b : Byte) : Option OpCode :=
  if b = 0x01#8 then some .frame
  else if b = 0x02#8 then some .unframe
  else if b = 0x03#8 then some .send
  else if b = 0x04#8 then some .receive
  else if b = 0x05#8 then some .flush
  else if b = 0x10#8 then some .normalize
  else if b = 0x11#8 then some .validate
  else if b = 0x12#8 then some .buildIso
  else if b = 0x13#8 then some .buildRaw
  else if b = 0x14#8 then some .parseIso
  else if b = 0x15#8 then some .parseRaw
  else none

/-- The track whose binary number is `b` (R82, R94). -/
def Track.ofByte (b : Byte) : Option Track :=
  if b = 0x01#8 then some .t1
  else if b = 0x02#8 then some .t2
  else if b = 0x03#8 then some .t3
  else none

/-- The binary number of a track (R94). -/
def Track.byte : Track → Byte
  | .t1 => 0x01#8
  | .t2 => 0x02#8
  | .t3 => 0x03#8

/-- R82: the legal ARG values of each operation. -/
def OpCode.argLegal (o : OpCode) (arg : Byte) : Bool :=
  match o with
  | .normalize => (Track.ofByte arg).isSome
  | .validate => (Track.ofByte arg).isSome
  | .frame => arg == 0x00#8
  | .unframe => arg == 0x00#8
  | .send => arg == 0x00#8
  | .receive => arg == 0x00#8
  | .flush => arg == 0x00#8
  | .buildIso => arg == 0x00#8
  | .buildRaw => arg == 0x00#8
  | .parseIso => arg == 0x00#8
  | .parseRaw => arg == 0x00#8

/-- The selector of a device command (R181-R202). -/
def DevCmd.selector : DevCmd → Byte
  | .devReset => 0x61#8
  | .testComm => 0x65#8
  | .testRam => 0x74#8
  | .testSensor => 0x86#8
  | .getFirmware => 0x76#8
  | .ledAllOff => 0x81#8
  | .ledAllOn => 0x82#8
  | .ledGreen => 0x83#8
  | .ledYellow => 0x84#8
  | .ledRed => 0x85#8
  | .readIso => 0x72#8
  | .readRaw => 0x6D#8
  | .writeIso => 0x77#8
  | .writeRaw => 0x6E#8
  | .erase => 0x63#8
  | .setHico => 0x78#8
  | .setLoco => 0x79#8
  | .getCoercivity => 0x64#8
  | .setBpi => 0x62#8
  | .setBpc => 0x6F#8
  | .setLeadingZero => 0x7A#8
  | .getLeadingZero => 0x6C#8

/-- The device command with a given selector; every other selector is in no row (R180). -/
def DevCmd.ofSelector (sel : Byte) : Option DevCmd :=
  if sel = 0x61#8 then some .devReset
  else if sel = 0x65#8 then some .testComm
  else if sel = 0x74#8 then some .testRam
  else if sel = 0x86#8 then some .testSensor
  else if sel = 0x76#8 then some .getFirmware
  else if sel = 0x81#8 then some .ledAllOff
  else if sel = 0x82#8 then some .ledAllOn
  else if sel = 0x83#8 then some .ledGreen
  else if sel = 0x84#8 then some .ledYellow
  else if sel = 0x85#8 then some .ledRed
  else if sel = 0x72#8 then some .readIso
  else if sel = 0x6D#8 then some .readRaw
  else if sel = 0x77#8 then some .writeIso
  else if sel = 0x6E#8 then some .writeRaw
  else if sel = 0x63#8 then some .erase
  else if sel = 0x78#8 then some .setHico
  else if sel = 0x79#8 then some .setLoco
  else if sel = 0x64#8 then some .getCoercivity
  else if sel = 0x62#8 then some .setBpi
  else if sel = 0x6F#8 then some .setBpc
  else if sel = 0x7A#8 then some .setLeadingZero
  else if sel = 0x6C#8 then some .getLeadingZero
  else none

/-- The instruction of a device command, with its data and the ignored operand C (R83). -/
def DevCmd.instr (d : DevCmd) (data spare : Operand) : Instr :=
  match d with
  | .devReset => .devReset data spare
  | .testComm => .testComm data spare
  | .testRam => .testRam data spare
  | .testSensor => .testSensor data spare
  | .getFirmware => .getFirmware data spare
  | .ledAllOff => .ledAllOff data spare
  | .ledAllOn => .ledAllOn data spare
  | .ledGreen => .ledGreen data spare
  | .ledYellow => .ledYellow data spare
  | .ledRed => .ledRed data spare
  | .readIso => .readIso data spare
  | .readRaw => .readRaw data spare
  | .writeIso => .writeIso data spare
  | .writeRaw => .writeRaw data spare
  | .erase => .erase data spare
  | .setHico => .setHico data spare
  | .setLoco => .setLoco data spare
  | .getCoercivity => .getCoercivity data spare
  | .setBpi => .setBpi data spare
  | .setBpc => .setBpc data spare
  | .setLeadingZero => .setLeadingZero data spare
  | .getLeadingZero => .getLeadingZero data spare

/-- Is operand A the 2-byte opcode of a catalog command (R180)? -/
def isCatalogOpcode (a : Operand) : Bool :=
  match a with
  | some [e, sel] => e == Config.esc && (DevCmd.ofSelector sel).isSome
  | _ => false

/-- A SEND whose operand A is a catalog opcode is that device command; every other SEND is the plain
operation, whose opcode is not checked (R180, R110; log 1). -/
def decodeSend (ops : Operands) : Instr :=
  match ops.a with
  | some [e, sel] =>
    if e = Config.esc then
      match DevCmd.ofSelector sel with
      | some d => d.instr ops.b ops.c
      | none => .send ops
    else .send ops
  | _ => .send ops

/-- What the decoder answers: an instruction, or a rejection by name (R84). -/
inductive Decoded where
  | instr (i : Instr)
  /-- OP is not in R81: acceptance finishes IllegalOperation. -/
  | reservedOp (op : Byte)
  /-- ARG must be 0 for this OP and is not: acceptance finishes InvalidFormat. -/
  | illegalArg (op arg : Byte)
deriving DecidableEq, Repr

/-- The instruction `i`, for an operation whose ARG must be 0 (R82). -/
def withZeroArg (c : Command) (i : Instr) : Decoded :=
  if c.arg = 0x00#8 then .instr i else .illegalArg c.op c.arg

/-- The decoder. NORMALIZE and VALIDATE decode with every ARG byte, as their rows' mask FF00 says; their meaning
checks the track number (R141; log 15). -/
def decode (c : Command) : Decoded :=
  match OpCode.ofByte c.op with
  | none => .reservedOp c.op
  | some .normalize => .instr (.normalize c.arg c.ops)
  | some .validate => .instr (.validate c.arg c.ops)
  | some .frame => withZeroArg c (.frame c.ops)
  | some .unframe => withZeroArg c (.unframe c.ops)
  | some .send => withZeroArg c (decodeSend c.ops)
  | some .receive => withZeroArg c (.receive c.ops)
  | some .flush => withZeroArg c (.flush c.ops)
  | some .buildIso => withZeroArg c (.buildIso c.ops)
  | some .buildRaw => withZeroArg c (.buildRaw c.ops)
  | some .parseIso => withZeroArg c (.parseIso c.ops)
  | some .parseRaw => withZeroArg c (.parseRaw c.ops)

/-- The command of a command-port operation (R80, R81). -/
def mkCommand (o : OpCode) (arg : Byte) (ops : Operands) : Command :=
  { cw := mkWord o.code arg, ops := ops }

/-- The command that carries a device command: `SEND <1B sel>, data` (R86, R180). -/
def devCommand (d : DevCmd) (data spare : Operand) : Command :=
  mkCommand .send 0x00#8 { a := some [Config.esc, d.selector], b := data, c := spare }

/-- The encoder: the command that stands for an instruction on the command port. -/
def encode : Instr → Command
  | .frame ops => mkCommand .frame 0x00#8 ops
  | .unframe ops => mkCommand .unframe 0x00#8 ops
  | .send ops => mkCommand .send 0x00#8 ops
  | .receive ops => mkCommand .receive 0x00#8 ops
  | .flush ops => mkCommand .flush 0x00#8 ops
  | .normalize t ops => mkCommand .normalize t ops
  | .validate t ops => mkCommand .validate t ops
  | .buildIso ops => mkCommand .buildIso 0x00#8 ops
  | .buildRaw ops => mkCommand .buildRaw 0x00#8 ops
  | .parseIso ops => mkCommand .parseIso 0x00#8 ops
  | .parseRaw ops => mkCommand .parseRaw 0x00#8 ops
  | .devReset data spare => devCommand .devReset data spare
  | .testComm data spare => devCommand .testComm data spare
  | .testRam data spare => devCommand .testRam data spare
  | .testSensor data spare => devCommand .testSensor data spare
  | .getFirmware data spare => devCommand .getFirmware data spare
  | .ledAllOff data spare => devCommand .ledAllOff data spare
  | .ledAllOn data spare => devCommand .ledAllOn data spare
  | .ledGreen data spare => devCommand .ledGreen data spare
  | .ledYellow data spare => devCommand .ledYellow data spare
  | .ledRed data spare => devCommand .ledRed data spare
  | .readIso data spare => devCommand .readIso data spare
  | .readRaw data spare => devCommand .readRaw data spare
  | .writeIso data spare => devCommand .writeIso data spare
  | .writeRaw data spare => devCommand .writeRaw data spare
  | .erase data spare => devCommand .erase data spare
  | .setHico data spare => devCommand .setHico data spare
  | .setLoco data spare => devCommand .setLoco data spare
  | .getCoercivity data spare => devCommand .getCoercivity data spare
  | .setBpi data spare => devCommand .setBpi data spare
  | .setBpc data spare => devCommand .setBpc data spare
  | .setLeadingZero data spare => devCommand .setLeadingZero data spare
  | .getLeadingZero data spare => devCommand .getLeadingZero data spare

/-- The command that a word of spec/opcode_table.json stands for. A DEVCMD16 word is compared with SEND's operand
A (R180), so a catalog word is laid out as that SEND; every other word is a command word. Operand strings that the
word does not give are absent (log 2). -/
def tableCommand (w : CmdWord) : Command :=
  if isCatalogOpcode (some [w.extractLsb' 8 8, w.extractLsb' 0 8]) then
    mkCommand .send 0x00#8 { a := some [w.extractLsb' 8 8, w.extractLsb' 0 8], b := none, c := none }
  else { cw := w, ops := { a := none, b := none, c := none } }

/-- The instruction the decoder reads from a table word: every word of this block has 16 bits (R80). -/
def decodeTableWord (nbits w : Nat) : Option Instr :=
  if nbits ≤ 16 ∧ w < 65536 then
    match decode (tableCommand (BitVec.ofNat 16 w)) with
    | .instr i => some i
    | .reservedOp _ => none
    | .illegalArg _ _ => none
  else none

end Sys2Proof
end

