-- ==== Sys2Proof/Machine/State.lean ====
section
/-! DEFINITION. The state of the block (10_state.md R20-R40), the model's own fields that hold HOST and ENV as plain
data, the faults and refusals, and the state after reset. -/

namespace Sys2Proof.Machine

/-- MODE (R21). -/
inductive Mode where
  | idle
  | tx
  | rx
deriving DecidableEq, Repr

/-- The status codes of 60_exceptions.md R230. -/
inductive Status where
  | ok
  | communicationError
  | deviceNotFound
  | alreadyConnected
  | notConnected
  | noCardSwipe
  | invalidFormat
  | readWriteMismatch
  | unknownStatus
  | timeout
  | emptyMessage
  | rxOverflow
  | illegalOperation
deriving DecidableEq, Repr

/-- The TrackErr codes (R39). -/
inductive TrackErr where
  | none
  | decode
  | length
  | charset
deriving DecidableEq, Repr

/-- A TrackRecord (R38). -/
structure TrackRecord where
  track : Track
  data : Bytes
  valid : Bool
  err : TrackErr
deriving DecidableEq, Repr

/-- The operand latches (R22). -/
structure Latches where
  opl : Byte
  argl : Byte
  a : Bytes
  pa : Bool
  b : Bytes
  pb : Bool
  c : Bytes
  pc : Bool
deriving DecidableEq, Repr

/-- The result register (R30). -/
structure ResultReg where
  valid : Bool
  op : Byte
  status : Status
  ok : Bool
  flag : Bool
  err : TrackErr
  count : Nat
  bytes : Bytes
  pkts : List Bytes
  recs : List TrackRecord
deriving DecidableEq, Repr

/-- The value one HOST read returns (R30). -/
inductive ReadValue where
  | bit (b : Bool)
  | code (b : Byte)
  | nat (n : Nat)
  | bytes (s : Bytes)
  | pkts (ps : List Bytes)
  | recs (rs : List TrackRecord)
deriving DecidableEq, Repr

/-- The whole state: R20's record (`mode` to `res`), then the parameters R8, then the model's own fields (log 3, 5,
12). -/
structure State where
  mode : Mode
  lat : Latches
  txPkts : List Bytes
  txIdx : Nat
  rxAcc : Bytes
  rxLast : Bool
  inQ : List Bytes
  res : ResultReg
  /-- The parameters of R8; no step changes them (log 8). -/
  params : Config.Params
  /-- The commands HOST has presented and the block has not accepted (R101; log 5). -/
  port : List Command
  /-- The moves of the agents still to happen, in order (R66; log 3). -/
  agenda : List Move
  /-- How many free moves have been drawn after the agenda's end (log 3). -/
  tick : Nat
  /-- OUT: the reports ENV accepted on the outbound port, oldest first; an observation (log 12). -/
  out : List Bytes
  /-- What HOST's last read returned; an observation (log 12). -/
  seen : Option ReadValue
deriving DecidableEq, Repr

/-- Why a step stops with a fault. No instruction raises one: the block never traps (60_exceptions.md R240). -/
inductive Fault where
  /-- Raised by HOST's read of a result field, or by HOST's `@RES` copy, while RES_VALID = 0: R31 calls the read a model
  fault. Safe. -/
  | resultNotValid (sel : ReadSel)
  /-- Raised by a transmit step whose TX_IDX names no report of TX_PKTS, which R24's invariant rules out (log 11).
  Safe. -/
  | txIndexOutOfRange (idx : Nat)
deriving DecidableEq, Repr

/-- Why a step is refused. -/
inductive Refusal where
  /-- Raised by exec's arm of an instruction that has no meaning yet; no arm is one. Safe. -/
  | notModelled (mnemonic : String)
deriving DecidableEq, Repr

/-- The latches at reset (R22, R40). -/
def Latches.reset : Latches where
  opl := 0x00#8
  argl := 0x00#8
  a := []
  pa := false
  b := []
  pb := false
  c := []
  pc := false

/-- The result register at reset: RES_VALID = 0 (R40); DESIGN CHOICE (log 7): the other nine fields, which R40 leaves
unspecified and unreadable, hold zero and the neutral values of R30. -/
def ResultReg.reset : ResultReg where
  valid := false
  op := 0x00#8
  status := .ok
  ok := false
  flag := false
  err := .none
  count := 0
  bytes := []
  pkts := []
  recs := []

/-- The machine right after reset (R40). IN_Q is a free value (log 6); the parameters are R8's defaults; DESIGN CHOICE
(log 3, 5, 12): the model's own fields are empty. -/
def State.reset : State where
  mode := .idle
  lat := Latches.reset
  txPkts := []
  txIdx := 0
  rxAcc := []
  rxLast := false
  inQ := Config.launchInQ
  res := ResultReg.reset
  params := Config.defaultParams
  port := []
  agenda := []
  tick := 0
  out := []
  seen := none

end Sys2Proof.Machine
end

