-- ==== Sys2Proof/Machine/Flags.lean ====
section
/-! DEFINITION. The one-bit flags and the code numbers: the packet header's FIRST, LAST and LEN (30_encoding.md R71),
RES_OK (40_packetizer.md R100), and the numbers of MODE, RES_STATUS and RES_ERR (10_state.md R21, R39;
60_exceptions.md R230). -/

namespace Sys2Proof.Machine

/-- LEN = HDR[5:0] = HDR & 0x3F, as a number (R71, R74). -/
def headerLen (h : Byte) : Nat := (h &&& 0x3F#8).toNat

/-- LAST = HDR[6] (R71). -/
def headerLast (h : Byte) : Bool := h.getLsbD 6

/-- FIRST = HDR[7] (R71). No rule reads it inbound (R73). -/
def headerFirst (h : Byte) : Bool := h.getLsbD 7

/-- HDR = FIRST·0x80 | LAST·0x40 | LEN, for LEN up to 63 (R71). -/
def mkHeader (first last : Bool) (len : Nat) : Byte :=
  (if first then 0x80#8 else 0x00#8) ||| (if last then 0x40#8 else 0x00#8) ||| BitVec.ofNat 8 len

/-- RES_OK: 1 exactly when the status is OK (R100, R230). -/
def statusIsOk (st : Status) : Bool := st == .ok

/-- The 8-bit code of a status (R230). -/
def statusCode (st : Status) : Byte :=
  match st with
  | .ok => 0x00#8
  | .communicationError => 0x01#8
  | .deviceNotFound => 0x02#8
  | .alreadyConnected => 0x03#8
  | .notConnected => 0x04#8
  | .noCardSwipe => 0x05#8
  | .invalidFormat => 0x06#8
  | .readWriteMismatch => 0x07#8
  | .unknownStatus => 0x08#8
  | .timeout => 0x10#8
  | .emptyMessage => 0x11#8
  | .rxOverflow => 0x12#8
  | .illegalOperation => 0x13#8

/-- The 8-bit code of a TrackErr (R39). -/
def trackErrCode (e : TrackErr) : Byte :=
  match e with
  | .none => 0x00#8
  | .decode => 0x01#8
  | .length => 0x02#8
  | .charset => 0x03#8

/-- The number of a MODE (R21); HOST reads it as the busy indication. -/
def modeCode (m : Mode) : Byte :=
  match m with
  | .idle => 0x00#8
  | .tx => 0x01#8
  | .rx => 0x02#8

end Sys2Proof.Machine
end

