-- ==== Sys2Proof/Machine/Operands.lean ====
section
/-! DEFINITION. Operand forms: how operand strings stand in the latches (10_state.md R22, 40_packetizer.md R102), how
HOST's `@RES` is resolved (30_encoding.md R85), the TrackSpec table (10_state.md R35-R37), and the data bytes of the
device commands (42_command_catalog.md R205, R206). -/

namespace Sys2Proof.Machine

/-- The bytes a latch takes: `P ? s : []` (R102). -/
def operandBytes (o : Operand) : Bytes :=
  match o with
  | some s => s
  | none => []

/-- The presence flag a latch takes (R102). -/
def operandPresent (o : Operand) : Bool := o.isSome

/-- The latches after a command is accepted (R102). -/
def captured (op arg : Byte) (ops : Operands) : Latches where
  opl := op
  argl := arg
  a := operandBytes ops.a
  pa := operandPresent ops.a
  b := operandBytes ops.b
  pb := operandPresent ops.b
  c := operandBytes ops.c
  pc := operandPresent ops.c

/-- An operand of BUILD_*: `P ? s : []` on the latched pair (R150, R153). -/
def latchedTrack (present : Bool) (s : Bytes) : Bytes := if present then s else []

/-- The operand HOST presents for a line's operand; `none` when `@RES` reads RES_BYTES while RES_VALID = 0 (R85,
R31). -/
def resolveOperand (res : ResultReg) (o : HostOperand) : Option Operand :=
  match o with
  | .absent => some none
  | .bytes s => some (some s)
  | .res => if res.valid then some (some res.bytes) else none

/-- The command HOST presents for a line, with every `@RES` resolved (R85). -/
def resolveCommand (res : ResultReg) (h : HostCommand) : Option Command :=
  match resolveOperand res h.a, resolveOperand res h.b, resolveOperand res h.c with
  | some a, some b, some c => some { cw := h.cw, ops := { a := a, b := b, c := c } }
  | _, _, _ => none

/-- The bytes of an ASCII text (R10). -/
def ascii (s : String) : Bytes := s.toList.map fun c => BitVec.ofNat 8 c.toNat

/-- The allowed character sets (R36, R37). -/
inductive Charset where
  | cs1
  | cs23
deriving DecidableEq, Repr

/-- Membership of a character set: CS1 is 20..5F (R36), CS23 is 30..3F and 25 (R37). -/
def charsetHas (cs : Charset) (b : Byte) : Bool :=
  match cs with
  | .cs1 => decide (0x20 ≤ b.toNat ∧ b.toNat ≤ 0x5F)
  | .cs23 => decide ((0x30 ≤ b.toNat ∧ b.toNat ≤ 0x3F) ∨ b.toNat = 0x25)

/-- The encoding families (R35). -/
inductive EncodingFamily where
  | sixBit
  | digit
deriving DecidableEq, Repr

/-- One entry of the TrackSpec table (R35). -/
structure TrackSpec where
  name : String
  bpi : Nat
  bpc : Nat
  maxLen : Nat
  start : Byte
  endSentinel : Byte
  charset : Charset
  family : EncodingFamily
deriving DecidableEq, Repr

/-- The TrackSpec table TS, constant but for the parameters of R8 (R35). -/
def trackSpec (p : Config.Params) (t : Track) : TrackSpec :=
  match t with
  | .t1 => { name := "Track 1", bpi := p.bpi1, bpc := p.bpc1, maxLen := p.maxLen1, start := 0x25#8,
             endSentinel := 0x3F#8, charset := .cs1, family := .sixBit }
  | .t2 => { name := "Track 2", bpi := p.bpi2, bpc := p.bpc2, maxLen := p.maxLen2, start := 0x3B#8,
             endSentinel := 0x3F#8, charset := .cs23, family := .digit }
  | .t3 => { name := "Track 3", bpi := p.bpi3, bpc := p.bpc3, maxLen := p.maxLen3, start := 0x3B#8,
             endSentinel := 0x3F#8, charset := .cs23, family := .digit }

/-- `in_cs(t, b)` (41_track_codec.md R145). -/
def inCharset (p : Config.Params) (t : Track) (b : Byte) : Bool := charsetHas (trackSpec p t).charset b

/-- The erase mask of three track selections: bit 0 is track 1 (R205). -/
def eraseMask (e1 e2 e3 : Bool) : Byte :=
  (if e1 then 0x01#8 else 0x00#8) ||| (if e2 then 0x02#8 else 0x00#8) ||| (if e3 then 0x04#8 else 0x00#8)

/-- The two densities that have a BPI code (R206). -/
inductive Density where
  | bpi75
  | bpi210
deriving DecidableEq, Repr

/-- The BPI data `[t, code]` (R206). -/
def bpiData (t : Track) (d : Density) : Bytes :=
  match d with
  | .bpi75 => [t.byte, 0x00#8]
  | .bpi210 => [t.byte, 0x01#8]

end Sys2Proof.Machine
end

