-- ==== Sys2Proof/Machine/Ops.lean ====
section
/-! DEFINITION. The named operations that every meaning shares: byte-string reads and searches (00_scope.md R10, R11),
`finish`, which stands where an instruction set has exception entry (R12; 40_packetizer.md R100), command acceptance
(R101, R102), and the ports' `pop` and `emit` (R12). -/

namespace Sys2Proof.Machine

/-- `MemRead(buf, a, n)` = `buf[a..a+n)` (R11; log 27). -/
def memRead (buf : Bytes) (a n : Nat) : Bytes := (buf.drop a).take n

/-- `MemWrite(buf, a, n, v)`: the `n` bytes from `a` replaced by `v` (R11). No rule of the block uses it. -/
def memWrite (buf : Bytes) (a n : Nat) (v : Bytes) : Bytes := buf.take a ++ v ++ buf.drop (a + n)

/-- `zeros(n)` (R10). -/
def zeros (n : Nat) : Bytes := List.replicate n 0x00#8

/-- The least index at which `p` stands in `s` (R10). -/
def findIn (p : Bytes) : Bytes → Option Nat
  | [] => if p = [] then some 0 else none
  | b :: s => if p.isPrefixOf (b :: s) then some 0 else (findIn p s).map (· + 1)

/-- `find(s, p, from)`: the least index `i ≥ from` with `s[i..i+len(p)) = p` (R10). -/
def find (s p : Bytes) (start : Nat) : Option Nat := (findIn p (s.drop start)).map (· + start)

/-- Is `n` above an optional bound (R8)? An absent bound is never exceeded. -/
def exceeds (cap : Option Nat) (n : Nat) : Bool :=
  match cap with
  | none => false
  | some k => decide (k < n)

/-- The fields a `finish` may name; each unnamed one takes its neutral value (R30, R100). -/
structure ResultFields where
  flag : Bool := false
  err : TrackErr := .none
  count : Nat := 0
  bytes : Bytes := []
  pkts : List Bytes := []
  recs : List TrackRecord := []
deriving DecidableEq, Repr

/-- The result register after `finish(status, fields)` of the operation `op` (R100). -/
def finished (op : Byte) (st : Status) (f : ResultFields) : ResultReg where
  valid := true
  op := op
  status := st
  ok := statusIsOk st
  flag := f.flag
  err := f.err
  count := f.count
  bytes := f.bytes
  pkts := f.pkts
  recs := f.recs

/-- `finish(status, fields)` (R100): writes all ten fields of the result register and returns MODE to IDLE. The block
has no trap; this is what ends an operation, in error or not (R12, R240). -/
def finish (st : Status) (f : ResultFields) (s : State) : State :=
  { s with res := finished s.lat.opl st f, mode := .idle }

/-- The writes of an acceptance step before the operation is performed: the latches, and RES_VALID cleared (R102). -/
def latch (op arg : Byte) (ops : Operands) (s : State) : State :=
  { s with lat := captured op arg ops, res := { s.res with valid := false } }

/-- The acceptance step of a legal OP (R102). The ARG check comes first (R232); `perform` is the operation's rule. While
MODE is not IDLE the block takes no acceptance step: the command is held and nothing changes (R101; log 14). -/
def accept (o : OpCode) (arg : Byte) (ops : Operands) (perform : State → State) (s : State) :
    Host.Outcome State Fault Refusal :=
  if s.mode = .idle then
    if o.argLegal arg then .next (perform (latch o.code arg ops s))
    else .next (finish .invalidFormat {} (latch o.code arg ops s))
  else .next s

/-- The acceptance step of a command word that is no instruction: a reserved OP, or an ARG that must be 0 and is not
(R84, R102; log 29, log 30). -/
def acceptRejected (op arg : Byte) (ops : Operands) (st : Status) (s : State) : Host.Outcome State Fault Refusal :=
  if s.mode = .idle then .next (finish st {} (latch op arg ops s)) else .next s

/-- `pop()`: the head of IN_Q and the state without it (R12). -/
def pop (s : State) : Option (Bytes × State) :=
  match s.inQ with
  | [] => none
  | r :: q => some (r, { s with inQ := q })

/-- What ENV has accepted after `emit(r)` is answered (R12, R55; log 12): a report answered FAIL is not among them,
whatever reached the device (log 28). -/
def emitted (ans : EmitAnswer) (r : Bytes) (s : State) : State :=
  match ans with
  | .ok => { s with out := s.out ++ [r] }
  | .fail => s

end Sys2Proof.Machine
end

