-- ==== Sys2Proof/Machine/Packetizer.lean ====
section
/-! DEFINITION. The packetizer: FRAME, UNFRAME, SEND, RECEIVE and FLUSH, the transmit and report steps, and DEADLINE
(40_packetizer.md R103-R122). -/

namespace Sys2Proof.Machine

/-- The number of packets of a payload of `len` bytes: `max(1, ceil(len / 63))` (R103). -/
def packetCount (len : Nat) : Nat := max 1 ((len + 62) / 63)

/-- Packet `k` of the payload `p` (R103): header, chunk, zero padding. -/
def packet (p : Bytes) (k : Nat) : Bytes :=
  let off := 63 * k
  let n := min 63 (p.length - off)
  [mkHeader (k == 0) (off + n == p.length) n] ++ memRead p off n ++ zeros (63 - n)

/-- `frame(p)` (R103). -/
def frame (p : Bytes) : List Bytes := (List.range (packetCount p.length)).map (packet p)

/-- How UNFRAME found its input (R106). -/
inductive UnframeKind where
  | absent
  | malformed
  | wellFormed
deriving DecidableEq, Repr

/-- `unframe(r)`: fragment, is_last, and how the input was found (R106). FIRST and the pad are not read (R73). -/
def unframe (r : Bytes) : Bytes × Bool × UnframeKind :=
  match r with
  | [] => ([], false, .absent)
  | h :: _ =>
    if r.length < 1 + headerLen h then ([], false, .malformed)
    else (memRead r 1 (headerLen h), headerLast h, .wellFormed)

/-- FRAME on the latches (R104). -/
def performFrame (s : State) : State :=
  if exceeds s.params.maxPayload s.lat.a.length then finish .invalidFormat {} s
  else finish .ok { pkts := frame s.lat.a, count := (frame s.lat.a).length } s

/-- UNFRAME on the latches (R107). -/
def performUnframe (s : State) : State :=
  match unframe s.lat.a with
  | (f, last, .wellFormed) => finish .ok { bytes := f, flag := last } s
  | (_, _, .absent) => finish .invalidFormat {} s
  | (_, _, .malformed) => finish .invalidFormat {} s

/-- SEND's acceptance on the latches (R110). -/
def performSend (s : State) : State :=
  if s.lat.a.length = 1 ∨ s.lat.a.length = 2 then
    if exceeds s.params.maxPayload (s.lat.a ++ s.lat.b).length then finish .invalidFormat {} s
    else { s with txPkts := frame (s.lat.a ++ s.lat.b), txIdx := 0, mode := .tx }
  else finish .invalidFormat {} s

/-- RECEIVE's acceptance (R115). -/
def performReceive (s : State) : State := { s with rxAcc := [], rxLast := false, mode := .rx }

/-- FLUSH (R122). -/
def performFlush (s : State) : State := finish .ok { count := s.inQ.length } { s with inQ := [] }

/-- FRAME (R104). -/
def execFrame (ops : Operands) (s : State) : Host.Outcome State Fault Refusal :=
  accept .frame 0x00#8 ops performFrame s

/-- UNFRAME (R107). -/
def execUnframe (ops : Operands) (s : State) : Host.Outcome State Fault Refusal :=
  accept .unframe 0x00#8 ops performUnframe s

/-- SEND, the acceptance step (R110); the transmit steps follow. -/
def execSend (ops : Operands) (s : State) : Host.Outcome State Fault Refusal :=
  accept .send 0x00#8 ops performSend s

/-- RECEIVE, the acceptance step (R115); the report steps follow. -/
def execReceive (ops : Operands) (s : State) : Host.Outcome State Fault Refusal :=
  accept .receive 0x00#8 ops performReceive s

/-- FLUSH (R122). -/
def execFlush (ops : Operands) (s : State) : Host.Outcome State Fault Refusal :=
  accept .flush 0x00#8 ops performFlush s

/-- TX_PKTS and TX_IDX cleared, as when SEND finishes (R24, R111). -/
def clearTx (s : State) : State := { s with txPkts := [], txIdx := 0 }

/-- SEND's transmit step, with ENV's answer (R111). -/
def txStep (ans : EmitAnswer) (s : State) : Host.Outcome State Fault Refusal :=
  match s.txPkts[s.txIdx]? with
  | none => .fault (.txIndexOutOfRange s.txIdx)
  | some r =>
    match ans with
    | .fail => .next (finish .communicationError { count := s.txIdx } (clearTx (emitted .fail r s)))
    | .ok =>
      if s.txIdx + 1 = s.txPkts.length then
        .next (finish .ok { count := s.txPkts.length } (clearTx (emitted .ok r s)))
      else .next { emitted .ok r s with txIdx := s.txIdx + 1 }

/-- `complete_rx(acc, seen)` (R117). -/
def completeRx (acc : Bytes) (last : Bool) (s : State) : State :=
  if 1 ≤ acc.length then finish .ok { bytes := acc, flag := last } s
  else if last then finish .emptyMessage { flag := true } s
  else finish .timeout {} s

/-- What RECEIVE does with one popped report `r` (R116, R119). -/
def rxReport (r : Bytes) (s : State) : State :=
  if exceeds s.params.rxCap (s.rxAcc.length + (unframe r).1.length) then
    finish .rxOverflow {} { s with rxAcc := [] }
  else if (unframe r).2.1 then
    completeRx (s.rxAcc ++ (unframe r).1) true { s with rxAcc := s.rxAcc ++ (unframe r).1, rxLast := true }
  else { s with rxAcc := s.rxAcc ++ (unframe r).1 }

/-- RECEIVE's report step; with IN_Q empty it is not enabled and nothing changes (R116; log 9). -/
def rxStep (s : State) : Host.Outcome State Fault Refusal :=
  match pop s with
  | none => .next s
  | some (r, s') => .next (rxReport r s')

/-- DEADLINE: ends a RECEIVE, has no effect in any other MODE (R118). -/
def deadline (s : State) : State := if s.mode = .rx then completeRx s.rxAcc false s else s

end Sys2Proof.Machine
end

