-- ==== Sys2Proof/Machine/Catalog.lean ====
section
/-! DEFINITION. The device command catalog (42_command_catalog.md R180-R202): each command is the SEND that carries its
2-byte opcode and its data, "because the block does nothing more with a command than frame and emit it". What the
device does with it is ENV's (00_scope.md R6 item 6; log 26). -/

namespace Sys2Proof.Machine

/-- The operands of `SEND <1B sel>, data` (R180; the third operand is ignored, R83). -/
def catalogOperands (d : DevCmd) (data spare : Operand) : Operands where
  a := some [Config.esc, d.selector]
  b := data
  c := spare

/-- The acceptance of `SEND <1B sel>, data` (R180, R110). -/
def acceptDevice (d : DevCmd) (data spare : Operand) (s : State) : Host.Outcome State Fault Refusal :=
  accept .send 0x00#8 (catalogOperands d data spare) performSend s

/-- RESET: reset, `1B 61` (R181). -/
def execDevReset (data spare : Operand) (s : State) : Host.Outcome State Fault Refusal :=
  acceptDevice .devReset data spare s

/-- TEST_COMM: test-comm, `1B 65` (R182). -/
def execTestComm (data spare : Operand) (s : State) : Host.Outcome State Fault Refusal :=
  acceptDevice .testComm data spare s

/-- TEST_RAM: test-RAM / get-model, `1B 74` (R183). -/
def execTestRam (data spare : Operand) (s : State) : Host.Outcome State Fault Refusal :=
  acceptDevice .testRam data spare s

/-- TEST_SENSOR: test-sensor, `1B 86` (R184). -/
def execTestSensor (data spare : Operand) (s : State) : Host.Outcome State Fault Refusal :=
  acceptDevice .testSensor data spare s

/-- GET_FIRMWARE: get-firmware, `1B 76` (R185). -/
def execGetFirmware (data spare : Operand) (s : State) : Host.Outcome State Fault Refusal :=
  acceptDevice .getFirmware data spare s

/-- LED_ALL_OFF: LED-all-off, `1B 81` (R186). -/
def execLedAllOff (data spare : Operand) (s : State) : Host.Outcome State Fault Refusal :=
  acceptDevice .ledAllOff data spare s

/-- LED_ALL_ON: LED-all-on, `1B 82` (R187). -/
def execLedAllOn (data spare : Operand) (s : State) : Host.Outcome State Fault Refusal :=
  acceptDevice .ledAllOn data spare s

/-- LED_GREEN: LED-green, `1B 83` (R188). -/
def execLedGreen (data spare : Operand) (s : State) : Host.Outcome State Fault Refusal :=
  acceptDevice .ledGreen data spare s

/-- LED_YELLOW: LED-yellow, `1B 84` (R189). -/
def execLedYellow (data spare : Operand) (s : State) : Host.Outcome State Fault Refusal :=
  acceptDevice .ledYellow data spare s

/-- LED_RED: LED-red, `1B 85` (R190). -/
def execLedRed (data spare : Operand) (s : State) : Host.Outcome State Fault Refusal :=
  acceptDevice .ledRed data spare s

/-- READ_ISO: read-ISO, `1B 72` (R191). -/
def execReadIso (data spare : Operand) (s : State) : Host.Outcome State Fault Refusal :=
  acceptDevice .readIso data spare s

/-- READ_RAW: read-raw, `1B 6D` (R192). -/
def execReadRaw (data spare : Operand) (s : State) : Host.Outcome State Fault Refusal :=
  acceptDevice .readRaw data spare s

/-- WRITE_ISO: write-ISO, `1B 77` (R193). -/
def execWriteIso (data spare : Operand) (s : State) : Host.Outcome State Fault Refusal :=
  acceptDevice .writeIso data spare s

/-- WRITE_RAW: write-raw, `1B 6E` (R194). -/
def execWriteRaw (data spare : Operand) (s : State) : Host.Outcome State Fault Refusal :=
  acceptDevice .writeRaw data spare s

/-- ERASE: erase, `1B 63` (R195). -/
def execErase (data spare : Operand) (s : State) : Host.Outcome State Fault Refusal :=
  acceptDevice .erase data spare s

/-- SET_HICO: set-HiCo, `1B 78` (R196). -/
def execSetHico (data spare : Operand) (s : State) : Host.Outcome State Fault Refusal :=
  acceptDevice .setHico data spare s

/-- SET_LOCO: set-LoCo, `1B 79` (R197). -/
def execSetLoco (data spare : Operand) (s : State) : Host.Outcome State Fault Refusal :=
  acceptDevice .setLoco data spare s

/-- GET_COERCIVITY: get-coercivity, `1B 64` (R198). -/
def execGetCoercivity (data spare : Operand) (s : State) : Host.Outcome State Fault Refusal :=
  acceptDevice .getCoercivity data spare s

/-- SET_BPI: set-BPI, `1B 62` (R199). -/
def execSetBpi (data spare : Operand) (s : State) : Host.Outcome State Fault Refusal :=
  acceptDevice .setBpi data spare s

/-- SET_BPC: set-BPC, `1B 6F` (R200). -/
def execSetBpc (data spare : Operand) (s : State) : Host.Outcome State Fault Refusal :=
  acceptDevice .setBpc data spare s

/-- SET_LEADING_ZERO: set-leading-zero, `1B 7A` (R201). -/
def execSetLeadingZero (data spare : Operand) (s : State) : Host.Outcome State Fault Refusal :=
  acceptDevice .setLeadingZero data spare s

/-- GET_LEADING_ZERO: get-leading-zero, `1B 6C` (R202). -/
def execGetLeadingZero (data spare : Operand) (s : State) : Host.Outcome State Fault Refusal :=
  acceptDevice .getLeadingZero data spare s

end Sys2Proof.Machine
end

