-- ==== Sys2Proof/Machine/Codec.lean ====
section
/-! DEFINITION. The track codec: NORMALIZE, VALIDATE, BUILD_ISO, BUILD_RAW, PARSE_ISO and PARSE_RAW
(41_track_codec.md R140-R166). Each reads only the latches and TS and writes only the result register (R140). -/

namespace Sys2Proof.Machine

/-- `upper` on one byte: 61..7A becomes 41..5A, every other byte is unchanged (R142). -/
def upperByte (b : Byte) : Byte := if 0x61 ≤ b.toNat ∧ b.toNat ≤ 0x7A then b - 0x20#8 else b

/-- The text without its maximal run of trailing bytes equal to `e` (R142). -/
def stripTrailing (e : Byte) (s : Bytes) : Bytes := ((s.reverse).dropWhile (· == e)).reverse

/-- `norm(t, s)` (R142). TS's sentinels do not depend on the parameters. -/
def norm (p : Config.Params) (t : Track) (s : Bytes) : Bytes :=
  let u := match t with
    | .t1 => s.map upperByte
    | .t2 => s
    | .t3 => s
  stripTrailing (trackSpec p t).endSentinel (u.dropWhile (· == (trackSpec p t).start))

/-- `validate(t, s)`: the error found, LENGTH before CHARSET; the text is valid when there is none (R145). -/
def validate (p : Config.Params) (t : Track) (s : Bytes) : TrackErr :=
  if (trackSpec p t).maxLen < s.length then .length
  else if s.all (inCharset p t) then .none
  else .charset

/-- The track marker `ESC t` (30_encoding.md R94). -/
def trackMarker (t : Track) : Bytes := [Config.esc, t.byte]

/-- The data-start marker `ESC 's'` (R93). -/
def dataStart : Bytes := [Config.esc, 0x73#8]

/-- The success marker `ESC '0'` (R93). -/
def successMarker : Bytes := [Config.esc, 0x30#8]

/-- The failure marker `ESC '1'` (R93). -/
def failureMarker : Bytes := [Config.esc, 0x31#8]

/-- The terminator `'?' FS` (R93). -/
def terminator : Bytes := [0x3F#8, Config.fs]

/-- TERMS: what ends a track's data (R160). -/
def terms : List Bytes :=
  [trackMarker .t1, trackMarker .t2, trackMarker .t3, successMarker, failureMarker, terminator]

/-- Where `slice` ends: the least position, from `start`, of any of TERMS, or the end of the response (R160). -/
def sliceEnd (resp : Bytes) (start : Nat) : Nat :=
  (terms.filterMap fun p => find resp p start).foldl min resp.length

/-- The bounds of track `t`'s data: from just after its first marker (R160). -/
def sliceBounds (resp : Bytes) (t : Track) : Option (Nat × Nat) :=
  (find resp (trackMarker t) 0).map fun m => (m + 2, sliceEnd resp (m + 2))

/-- `slice(resp, t)`; `none` when the track is omitted (R160). -/
def slice (resp : Bytes) (t : Track) : Option Bytes :=
  (sliceBounds resp t).map fun b => memRead resp b.1 (b.2 - b.1)

/-- Is the byte removed from an ISO slice: a control byte 00..1F or 7F (R162)? -/
def isControl (b : Byte) : Bool := decide (b.toNat ≤ 0x1F ∨ b.toNat = 0x7F)

/-- `iso_record(t, sl)` (R162). -/
def isoRecord (p : Config.Params) (t : Track) (sl : Bytes) : TrackRecord :=
  if sl.any (fun b => decide (0x80 ≤ b.toNat)) then { track := t, data := [], valid := false, err := .decode }
  else
    let x := sl.filter fun b => !isControl b
    { track := t, data := x, valid := validate p t x == .none, err := validate p t x }

/-- The record of a raw slice (R165). -/
def rawRecord (t : Track) (sl : Bytes) : TrackRecord := { track := t, data := sl, valid := true, err := .none }

/-- PARSE_ISO's records of a response (R161). -/
def parseIso (p : Config.Params) (resp : Bytes) : List TrackRecord :=
  [Track.t1, .t2, .t3].filterMap fun t => (slice resp t).map (isoRecord p t)

/-- PARSE_RAW's records of a response (R165). -/
def parseRaw (resp : Bytes) : List TrackRecord :=
  [Track.t1, .t2, .t3].filterMap fun t => (slice resp t).map (rawRecord t)

/-- ISO(n1, n2, n3), the ISO write payload (R91, R150). -/
def isoPayload (n1 n2 n3 : Bytes) : Bytes :=
  dataStart ++ trackMarker .t1 ++ n1 ++ trackMarker .t2 ++ n2 ++ trackMarker .t3 ++ n3 ++ terminator

/-- One track section of the raw write payload (R92). -/
def rawSection (t : Track) (r : Bytes) : Bytes := trackMarker t ++ [BitVec.ofNat 8 r.length] ++ r

/-- RAW(r1, r2, r3), the raw write payload (R92, R153). -/
def rawPayload (r1 r2 r3 : Bytes) : Bytes :=
  dataStart ++ rawSection .t1 r1 ++ rawSection .t2 r2 ++ rawSection .t3 r3 ++ terminator

/-- NORMALIZE on the latches (R142); a track number other than 1, 2, 3 is InvalidFormat (R141). -/
def performNormalize (s : State) : State :=
  match Track.ofByte s.lat.argl with
  | some t => finish .ok { bytes := norm s.params t s.lat.a } s
  | none => finish .invalidFormat {} s

/-- VALIDATE on the latches (R146); a track number other than 1, 2, 3 is InvalidFormat (R141). -/
def performValidate (s : State) : State :=
  match Track.ofByte s.lat.argl with
  | some t =>
    finish .ok { flag := validate s.params t s.lat.a == .none, err := validate s.params t s.lat.a } s
  | none => finish .invalidFormat {} s

/-- BUILD_ISO on the latches (R150); it does not validate (R151). -/
def performBuildIso (s : State) : State :=
  let n := fun (t : Track) (present : Bool) (x : Bytes) => if present then norm s.params t x else []
  finish .ok { bytes := isoPayload (n .t1 s.lat.pa s.lat.a) (n .t2 s.lat.pb s.lat.b) (n .t3 s.lat.pc s.lat.c) } s

/-- BUILD_RAW on the latches (R153). -/
def performBuildRaw (s : State) : State :=
  let r1 := latchedTrack s.lat.pa s.lat.a
  let r2 := latchedTrack s.lat.pb s.lat.b
  let r3 := latchedTrack s.lat.pc s.lat.c
  if 255 < r1.length ∨ 255 < r2.length ∨ 255 < r3.length then finish .invalidFormat {} s
  else finish .ok { bytes := rawPayload r1 r2 r3 } s

/-- PARSE_ISO on the latches (R161). -/
def performParseIso (s : State) : State := finish .ok { recs := parseIso s.params s.lat.a } s

/-- PARSE_RAW on the latches (R165). -/
def performParseRaw (s : State) : State := finish .ok { recs := parseRaw s.lat.a } s

/-- NORMALIZE (R142). -/
def execNormalize (t : Byte) (ops : Operands) (s : State) : Host.Outcome State Fault Refusal :=
  accept .normalize t ops performNormalize s

/-- VALIDATE (R146). -/
def execValidate (t : Byte) (ops : Operands) (s : State) : Host.Outcome State Fault Refusal :=
  accept .validate t ops performValidate s

/-- BUILD_ISO (R150). -/
def execBuildIso (ops : Operands) (s : State) : Host.Outcome State Fault Refusal :=
  accept .buildIso 0x00#8 ops performBuildIso s

/-- BUILD_RAW (R153). -/
def execBuildRaw (ops : Operands) (s : State) : Host.Outcome State Fault Refusal :=
  accept .buildRaw 0x00#8 ops performBuildRaw s

/-- PARSE_ISO (R161). -/
def execParseIso (ops : Operands) (s : State) : Host.Outcome State Fault Refusal :=
  accept .parseIso 0x00#8 ops performParseIso s

/-- PARSE_RAW (R165). -/
def execParseRaw (ops : Operands) (s : State) : Host.Outcome State Fault Refusal :=
  accept .parseRaw 0x00#8 ops performParseRaw s

end Sys2Proof.Machine
end

