-- ==== Sys2Proof/Machine/Dispatch.lean ====
section
/-! DEFINITION. The dispatch: one arm per instruction, each one call of its meaning. -/

namespace Sys2Proof.Machine

/-- The acceptance step of an instruction (40_packetizer.md R102). -/
def exec (i : Instr) (s : State) : Host.Outcome State Fault Refusal :=
  match i with
  | .frame ops => Sys2Proof.Machine.execFrame ops s
  | .unframe ops => Sys2Proof.Machine.execUnframe ops s
  | .send ops => Sys2Proof.Machine.execSend ops s
  | .receive ops => Sys2Proof.Machine.execReceive ops s
  | .flush ops => Sys2Proof.Machine.execFlush ops s
  | .normalize t ops => Sys2Proof.Machine.execNormalize t ops s
  | .validate t ops => Sys2Proof.Machine.execValidate t ops s
  | .buildIso ops => Sys2Proof.Machine.execBuildIso ops s
  | .buildRaw ops => Sys2Proof.Machine.execBuildRaw ops s
  | .parseIso ops => Sys2Proof.Machine.execParseIso ops s
  | .parseRaw ops => Sys2Proof.Machine.execParseRaw ops s
  | .devReset data spare => Sys2Proof.Machine.execDevReset data spare s
  | .testComm data spare => Sys2Proof.Machine.execTestComm data spare s
  | .testRam data spare => Sys2Proof.Machine.execTestRam data spare s
  | .testSensor data spare => Sys2Proof.Machine.execTestSensor data spare s
  | .getFirmware data spare => Sys2Proof.Machine.execGetFirmware data spare s
  | .ledAllOff data spare => Sys2Proof.Machine.execLedAllOff data spare s
  | .ledAllOn data spare => Sys2Proof.Machine.execLedAllOn data spare s
  | .ledGreen data spare => Sys2Proof.Machine.execLedGreen data spare s
  | .ledYellow data spare => Sys2Proof.Machine.execLedYellow data spare s
  | .ledRed data spare => Sys2Proof.Machine.execLedRed data spare s
  | .readIso data spare => Sys2Proof.Machine.execReadIso data spare s
  | .readRaw data spare => Sys2Proof.Machine.execReadRaw data spare s
  | .writeIso data spare => Sys2Proof.Machine.execWriteIso data spare s
  | .writeRaw data spare => Sys2Proof.Machine.execWriteRaw data spare s
  | .erase data spare => Sys2Proof.Machine.execErase data spare s
  | .setHico data spare => Sys2Proof.Machine.execSetHico data spare s
  | .setLoco data spare => Sys2Proof.Machine.execSetLoco data spare s
  | .getCoercivity data spare => Sys2Proof.Machine.execGetCoercivity data spare s
  | .setBpi data spare => Sys2Proof.Machine.execSetBpi data spare s
  | .setBpc data spare => Sys2Proof.Machine.execSetBpc data spare s
  | .setLeadingZero data spare => Sys2Proof.Machine.execSetLeadingZero data spare s
  | .getLeadingZero data spare => Sys2Proof.Machine.execGetLeadingZero data spare s

end Sys2Proof.Machine
end

