-- ==== Sys2Proof/Machine/Agents.lean ====
section
/-! DEFINITION. One atomic step of each agent (00_scope.md R13; 20_memory.md R66): BLOCK's enabled step, HOST's
presenting and reading, ENV's append and DEADLINE, and the opening of the Link. -/

namespace Sys2Proof.Machine

/-- BLOCK's acceptance step: the presented command that has waited longest is taken from the port, decoded and run; a
command word that is no instruction finishes with the status R84 gives. With nothing presented no step is enabled and
nothing changes (R102; log 5, log 9). -/
def acceptStep (s : State) : Host.Outcome State Fault Refusal :=
  match s.port with
  | [] => .next s
  | c :: rest =>
    match decode c with
    | .instr i => exec i { s with port := rest }
    | .reservedOp op => acceptRejected op c.arg c.ops .illegalOperation { s with port := rest }
    | .illegalArg op arg => acceptRejected op arg c.ops .invalidFormat { s with port := rest }

/-- BLOCK's enabled step in each MODE: accept in IDLE (R102), emit in TX (R111), pop in RX (R116). A command presented
while MODE is not IDLE stays on the port (R101). -/
def blockStep (ans : EmitAnswer) (s : State) : Host.Outcome State Fault Refusal :=
  match s.mode with
  | .idle => acceptStep s
  | .tx => txStep ans s
  | .rx => rxStep s

/-- HOST presents a command (R80, R101). `@RES` reads RES_BYTES, so it is a model fault while RES_VALID = 0
(R85, R31). -/
def hostPresent (line : HostCommand) (s : State) : Host.Outcome State Fault Refusal :=
  match resolveCommand s.res line with
  | some c => .next { s with port := s.port ++ [c] }
  | none => .fault (.resultNotValid .bytes)

/-- The value of a field as HOST reads it (R21, R30); 8-bit fields read as their codes. -/
def readValue (sel : ReadSel) (s : State) : ReadValue :=
  match sel with
  | .mode => .code (modeCode s.mode)
  | .valid => .bit s.res.valid
  | .op => .code s.res.op
  | .status => .code (statusCode s.res.status)
  | .ok => .bit s.res.ok
  | .flag => .bit s.res.flag
  | .err => .code (trackErrCode s.res.err)
  | .count => .nat s.res.count
  | .bytes => .bytes s.res.bytes
  | .pkts => .pkts s.res.pkts
  | .recs => .recs s.res.recs

/-- May HOST read this field whatever RES_VALID is? MODE and RES_VALID itself (R21, R31). -/
def alwaysReadable (sel : ReadSel) : Bool :=
  match sel with
  | .mode => true
  | .valid => true
  | .op => false
  | .status => false
  | .ok => false
  | .flag => false
  | .err => false
  | .count => false
  | .bytes => false
  | .pkts => false
  | .recs => false

/-- HOST reads one field: no side effect on the block (R56); a model fault for the nine result fields while
RES_VALID = 0 (R31). -/
def hostRead (sel : ReadSel) (s : State) : Host.Outcome State Fault Refusal :=
  if alwaysReadable sel || s.res.valid then .next { s with seen := some (readValue sel s) }
  else .fault (.resultNotValid sel)

/-- The field number of R30, the HOST-side read selector; MODE has none (log 25). -/
def readNumber (sel : ReadSel) : Option Nat :=
  match sel with
  | .mode => none
  | .valid => some 0
  | .op => some 1
  | .status => some 2
  | .ok => some 3
  | .flag => some 4
  | .err => some 5
  | .count => some 6
  | .bytes => some 7
  | .pkts => some 8
  | .recs => some 9

/-- ENV appends a report to the tail of IN_Q while it is shorter than INQ_CAP; otherwise the report is dropped
(R120). -/
def envAppend (r : Bytes) (s : State) : State :=
  if exceeds s.params.inqCap (s.inQ.length + 1) then s else { s with inQ := s.inQ ++ [r] }

/-- The Link is opened: every field of the block takes its reset value (R40, R260, R261), with `q` in IN_Q, which R40
leaves open. What ENV accepted, what HOST holds and the parameters are not the block's (log 13). -/
def linkOpen (q : List Bytes) (s : State) : State :=
  { s with
    mode := .idle
    lat := Latches.reset
    txPkts := []
    txIdx := 0
    rxAcc := []
    rxLast := false
    inQ := q
    res := ResultReg.reset }

/-- One move of one agent (R66). -/
def agentStep (m : Move) (s : State) : Host.Outcome State Fault Refusal :=
  match m with
  | .present line => hostPresent line s
  | .read sel => hostRead sel s
  | .append r => .next (envAppend r s)
  | .deadline => .next (deadline s)
  | .block ans => blockStep ans s
  | .linkOpen q => .next (linkOpen q s)

/-- The move that happens next, and the state once it is drawn: the agenda's head, or after the agenda's end a free
move (R13, R66; log 3). -/
def nextMove (s : State) : Move × State :=
  match s.agenda with
  | m :: ms => (m, { s with agenda := ms })
  | [] => (Config.freeMove s.tick, { s with tick := s.tick + 1 })

/-- `s` with a command presented first and BLOCK's step the next move, so that the next step accepts it when MODE is
IDLE (log 4). -/
def presentNext (c : Command) (s : State) : State :=
  { s with port := c :: s.port, agenda := .block .ok :: s.agenda }

end Sys2Proof.Machine
end

