-- ==== Sys2Proof/Machine/Step.lean ====
section
/-! DEFINITION. The step: one move of one agent (20_memory.md R66). -/

namespace Sys2Proof.Machine

/-- One atomic step. -/
def step (s : State) : Host.Outcome State Fault Refusal := agentStep (nextMove s).1 (nextMove s).2

/-- `s` with the instruction of a table word where the next step fetches it: first on the command port, with BLOCK's
step the next move (log 2, log 4). -/
def State.withFetchWord (s : State) (_nbits w : Nat) : State :=
  presentNext (tableCommand (BitVec.ofNat 16 w)) s

end Sys2Proof.Machine
end

