-- ==== Sys2Proof/Machine/Orchestrator.lean ====
section
/-! DEFINITION. The functions of HOST's side that read the block's results: classify, compare, copy and the uniform
result (42_command_catalog.md R210-R213), and the command sequences HOST must follow (30_encoding.md R86;
70_reset_and_hazards.md R263, R264). They hold no block state (log 17). -/

namespace Sys2Proof.Machine

/-- One line for a command-port operation (R85). -/
def opLine (o : OpCode) (arg : Byte) (a b c : HostOperand) : HostCommand where
  cw := mkWord o.code arg
  a := a
  b := b
  c := c

/-- `SEND <1B sel>, data` (R86). -/
def devLine (d : DevCmd) (data : HostOperand) : HostCommand :=
  opLine .send 0x00#8 (.bytes [Config.esc, d.selector]) data .absent

/-- `FLUSH`. -/
def flushLine : HostCommand := opLine .flush 0x00#8 .absent .absent .absent

/-- `RECEIVE`. -/
def receiveLine : HostCommand := opLine .receive 0x00#8 .absent .absent .absent

/-- `DEV READ_ISO`, the first command of a read-ISO exchange (R191, R211). -/
def readIsoLine : HostCommand := devLine .readIso .absent

/-- `PARSE_ISO @RES`, which parses the response that RECEIVE has just given (R161, R212). -/
def parseIsoLine : HostCommand := opLine .parseIso 0x00#8 .res .absent .absent

/-- The commands of a read (ISO), as block commands: the read-ISO exchange, then PARSE_ISO (R212). -/
def readIsoLines : List HostCommand := [readIsoLine, receiveLine, parseIsoLine]

/-- `WRITE_ISO t1, t2, t3` (R86). -/
def writeIsoLines (t1 t2 t3 : HostOperand) : List HostCommand :=
  [opLine .buildIso 0x00#8 t1 t2 t3, devLine .writeIso .res]

/-- `WRITE_RAW t1, t2, t3` (R86). -/
def writeRawLines (t1 t2 t3 : HostOperand) : List HostCommand :=
  [opLine .buildRaw 0x00#8 t1 t2 t3, devLine .writeRaw .res]

/-- `ERASE m` (R86). -/
def eraseLine (m : Byte) : HostCommand := devLine .erase (.bytes [m])

/-- The coercivity command that matches HOST's cached setting (R263). -/
def coercivityLine (hiCo : Bool) : HostCommand :=
  if hiCo then devLine .setHico .absent else devLine .setLoco .absent

/-- R263's write/erase sequence around the write or erase itself; the classification of the last result follows. -/
def writeEraseSequence (hiCo : Bool) (body : List HostCommand) : List HostCommand :=
  [flushLine, coercivityLine hiCo, receiveLine, flushLine] ++ body ++ [receiveLine]

/-- R264's desync recovery: `DEV RESET`, then `FLUSH`. -/
def desyncRecovery : List HostCommand := [devLine .devReset .absent, flushLine]

/-- The outcome of a status classification (R210). -/
inductive Classification where
  | success
  | fail (st : Status)
deriving DecidableEq, Repr

/-- Is `op` read-ISO, read-raw, write-ISO, write-raw or erase (R210)? -/
def isCardOpcode (op : Bytes) : Bool :=
  op ∈ ([.readIso, .readRaw, .writeIso, .writeRaw, .erase] : List DevCmd).map fun d => [Config.esc, d.selector]

/-- `classify(op, resp)` (R210). -/
def classify (op resp : Bytes) : Classification :=
  if (find resp successMarker 0).isSome then .success
  else if (find resp dataStart 0).isSome then .success
  else if 2 ≤ resp.length then .success
  else if resp.length = 0 then .fail (if isCardOpcode op then .noCardSwipe else .unknownStatus)
  else .fail .unknownStatus

/-- The response that a RECEIVE's result gives: RES_BYTES, or [] when RES_OK = 0 (R210). -/
def responseOf (res : ResultReg) : Bytes := if res.ok then res.bytes else []

/-- An optional text for each track: an expectation of compare (R211). -/
structure TrackTexts where
  t1 : Option Bytes
  t2 : Option Bytes
  t3 : Option Bytes
deriving DecidableEq, Repr

/-- The text given for a track. -/
def TrackTexts.get (x : TrackTexts) (t : Track) : Option Bytes :=
  match t with
  | .t1 => x.t1
  | .t2 => x.t2
  | .t3 => x.t3

/-- What a read-ISO exchange gave: its failure, or PARSE_ISO's records (R211). -/
inductive ReadOutcome where
  | failed (st : Status)
  | records (recs : List TrackRecord)
deriving DecidableEq, Repr

/-- The outcome of a read (ISO) from the results of its SEND and its RECEIVE: a SEND that fails gives its status, a
response that classify does not accept gives classify's, and every other response is parsed (R111, R210, R211, R161). -/
def readIsoOutcome (p : Config.Params) (sent received : ResultReg) : ReadOutcome :=
  if sent.ok then
    match classify [Config.esc, DevCmd.readIso.selector] (responseOf received) with
    | .fail st => .failed st
    | .success => .records (parseIso p (responseOf received))
  else .failed sent.status

/-- What HOST does next in a read (ISO): present a command, or stop with the read's outcome (R211, R212). -/
inductive ReadStep where
  | present (line : HostCommand)
  | finished (outcome : ReadOutcome)
deriving DecidableEq, Repr

/-- What HOST does next in a read (ISO), from the results it has read so far, oldest first: those of the SEND, of the
RECEIVE and of PARSE_ISO. It presents `readIsoLines` one by one and stops at the first failure (R211, R212). -/
def readIsoNext (results : List ResultReg) : ReadStep :=
  match results with
  | [] => .present readIsoLine
  | sent :: rest =>
    if sent.ok then
      match rest with
      | [] => .present receiveLine
      | received :: rest' =>
        match classify [Config.esc, DevCmd.readIso.selector] (responseOf received) with
        | .fail st => .finished (.failed st)
        | .success =>
          match rest' with
          | [] => .present parseIsoLine
          | parsed :: _ => .finished (.records parsed.recs)
    else .finished (.failed sent.status)

/-- The record of a track, if the read returned one (R211). -/
def recordOf (recs : List TrackRecord) (t : Track) : Option TrackRecord := recs.find? fun r => r.track == t

/-- Does track `t` mismatch: a text is expected and no record holds its normalized form (R211)? The record's valid bit is
not consulted. -/
def mismatched (p : Config.Params) (expected : TrackTexts) (recs : List TrackRecord) (t : Track) : Bool :=
  match expected.get t with
  | none => false
  | some e =>
    match recordOf recs t with
    | none => true
    | some r => !(r.data == norm p t e)

/-- The outcome of compare: FAIL carries the read's failure, or ReadWriteMismatch with the track numbers (R211). -/
inductive CompareResult where
  | success
  | readFailed (st : Status)
  | mismatch (tracks : List Track)
deriving DecidableEq, Repr

/-- `compare(expected, recs)` (R211). -/
def compareTracks (p : Config.Params) (expected : TrackTexts) (read : ReadOutcome) : CompareResult :=
  match read with
  | .failed st => .readFailed st
  | .records recs =>
    let mism := [Track.t1, .t2, .t3].filter (mismatched p expected recs)
    if mism.isEmpty then .success else .mismatch mism

/-- What HOST does next in compare: a command of the read, or compare's outcome (R211). -/
inductive ComparePlan where
  | present (line : HostCommand)
  | done (result : CompareResult)
deriving DecidableEq, Repr

/-- Compare as HOST runs it: the read (ISO), then `compareTracks` on its outcome (R211). -/
def compareNext (p : Config.Params) (expected : TrackTexts) (results : List ResultReg) : ComparePlan :=
  match readIsoNext results with
  | .present line => .present line
  | .finished outcome => .done (compareTracks p expected outcome)

/-- The status of a compare (R211, R230). -/
def compareStatus (r : CompareResult) : Status :=
  match r with
  | .success => .ok
  | .readFailed st => st
  | .mismatch _ => .readWriteMismatch

/-- The operand that copy writes for a track: its record's data whatever the valid bit, absent without a record
(R212). -/
def copyOperand (recs : List TrackRecord) (t : Track) : HostOperand :=
  match recordOf recs t with
  | some r => .bytes r.data
  | none => .absent

/-- What HOST does next in copy: a command of the read, the read's failure as copy's, or the lines of the write
(R212). -/
inductive CopyPlan where
  | present (line : HostCommand)
  | readFailed (st : Status)
  | write (lines : List HostCommand)
deriving DecidableEq, Repr

/-- Copy once the read has ended: the read's failure, or `WRITE_ISO d1, d2, d3` (R212). HOST issues these lines as the
body of R263's sequence (`writeEraseSequence`), as for every write-ISO. -/
def copyTracks (read : ReadOutcome) : CopyPlan :=
  match read with
  | .failed st => .readFailed st
  | .records recs => .write (writeIsoLines (copyOperand recs .t1) (copyOperand recs .t2) (copyOperand recs .t3))

/-- Copy as HOST runs it: the read (ISO), then the write of its records, or the read's failure (R212). -/
def copyNext (results : List ResultReg) : CopyPlan :=
  match readIsoNext results with
  | .present line => .present line
  | .finished outcome => copyTracks outcome

/-- The uniform result, without the human-readable message, which is surrounding software (R213). -/
structure UniformResult where
  success : Bool
  classification : Status
  rawBytes : Bytes
  records : List TrackRecord
deriving DecidableEq, Repr

/-- The uniform result of the result register (R213). -/
def uniformResult (res : ResultReg) : UniformResult where
  success := res.ok
  classification := res.status
  rawBytes := res.bytes
  records := res.recs

end Sys2Proof.Machine
end

