-- ==== Sys2Proof/Machine/Assembler.lean ====
section
/-! DEFINITION. The assembler syntax of 30_encoding.md R85 and the pseudo-instructions of R86: from the ASCII bytes of a
program to the lines HOST presents. Where R85 leaves the grammar open, see log 18. -/

namespace Sys2Proof.Machine

/-- The tokens of a line: a word, a comma, a quoted text, a hex string. -/
inductive Token where
  | word (s : Bytes)
  | comma
  | str (s : Bytes)
  | hex (s : Bytes)
deriving DecidableEq, Repr

/-- Where the lexer stands; accumulated bytes are in reverse order. -/
inductive LexState where
  | between
  | inWord (acc : Bytes)
  | inStr (acc : Bytes)
  | inHex (acc : Bytes) (hi : Option Nat)
deriving DecidableEq, Repr

/-- The value of a hexadecimal digit. -/
def hexDigit (b : Byte) : Option Nat :=
  if 0x30 ≤ b.toNat ∧ b.toNat ≤ 0x39 then some (b.toNat - 0x30)
  else if 0x41 ≤ b.toNat ∧ b.toNat ≤ 0x46 then some (b.toNat - 0x41 + 10)
  else if 0x61 ≤ b.toNat ∧ b.toNat ≤ 0x66 then some (b.toNat - 0x61 + 10)
  else none

/-- A blank: space, tab or carriage return. -/
def isBlank (b : Byte) : Bool := b == 0x20#8 || b == 0x09#8 || b == 0x0D#8

/-- The token that ends where a word ends, before the tokens that follow. -/
def closeWord (acc : Bytes) (rest : Option (List Token)) : Option (List Token) :=
  rest.map fun ts => .word acc.reverse :: ts

/-- The tokens of a line; `none` when a text or a hex string does not close. `;` outside a text starts a comment
(R85). DESIGN CHOICE (log 18): a text ends at the first byte 22, with no escape, so no text holds that byte; every other
byte of a text, those above 7F included, is kept as it stands; a quote or a `<` within a word belongs to the word; a
text or a hex string needs no blank around it. -/
def lex : LexState → Bytes → Option (List Token)
  | .between, [] => some []
  | .inWord acc, [] => some [.word acc.reverse]
  | .inStr _, [] => none
  | .inHex _ _, [] => none
  | .between, b :: s =>
    if isBlank b then lex .between s
    else if b = 0x3B#8 then some []
    else if b = 0x2C#8 then (lex .between s).map (.comma :: ·)
    else if b = 0x22#8 then lex (.inStr []) s
    else if b = 0x3C#8 then lex (.inHex [] none) s
    else lex (.inWord [b]) s
  | .inWord acc, b :: s =>
    if isBlank b then closeWord acc (lex .between s)
    else if b = 0x3B#8 then some [.word acc.reverse]
    else if b = 0x2C#8 then closeWord acc ((lex .between s).map (.comma :: ·))
    else lex (.inWord (b :: acc)) s
  | .inStr acc, b :: s =>
    if b = 0x22#8 then (lex .between s).map (.str acc.reverse :: ·) else lex (.inStr (b :: acc)) s
  | .inHex acc none, b :: s =>
    if isBlank b then lex (.inHex acc none) s
    else if b = 0x3E#8 then (lex .between s).map (.hex acc.reverse :: ·)
    else (hexDigit b).bind fun d => lex (.inHex acc (some d)) s
  | .inHex acc (some hi), b :: s =>
    (hexDigit b).bind fun d => lex (.inHex (BitVec.ofNat 8 (16 * hi + d) :: acc) none) s

/-- The arguments of a line: tokens with one comma between each two. -/
def splitArgs : List Token → Option (List Token)
  | [] => some []
  | [t] => if t = .comma then none else some [t]
  | t :: .comma :: ts => if t = .comma ∨ ts = [] then none else (splitArgs ts).map (t :: ·)
  | _ => none

/-- An operand of a line (R85). -/
def operandOf (t : Token) : Option HostOperand :=
  match t with
  | .str s => some (.bytes s)
  | .hex s => some (.bytes s)
  | .word w => if w = ascii "-" then some .absent else if w = ascii "@RES" then some .res else none
  | .comma => none

/-- The operands A, B, C of a line; trailing ones may be omitted (R85). -/
def threeOperands (ts : List Token) : Option (HostOperand × HostOperand × HostOperand) :=
  match ts.mapM operandOf with
  | some [] => some (.absent, .absent, .absent)
  | some [a] => some (a, .absent, .absent)
  | some [a, b] => some (a, b, .absent)
  | some [a, b, c] => some (a, b, c)
  | _ => none

/-- The digits of a number, most significant first, in a base. -/
def digitsValue (base : Nat) : List (Option Nat) → Nat → Option Nat
  | [], acc => some acc
  | some d :: ds, acc => if d < base then digitsValue base ds (base * acc + d) else none
  | none :: _, _ => none

/-- A number of at most `bound - 1`, with at least one digit. -/
def numberBelow (base bound : Nat) (s : Bytes) : Option Nat :=
  if s = [] then none
  else (digitsValue base (s.map hexDigit) 0).bind fun n => if n < bound then some n else none

/-- The mnemonics of the command-port operations (R81). -/
def opNames : List (String × OpCode) :=
  [("FRAME", .frame), ("UNFRAME", .unframe), ("SEND", .send), ("RECEIVE", .receive), ("FLUSH", .flush),
   ("NORMALIZE", .normalize), ("VALIDATE", .validate), ("BUILD_ISO", .buildIso), ("BUILD_RAW", .buildRaw),
   ("PARSE_ISO", .parseIso), ("PARSE_RAW", .parseRaw)]

/-- The names of the device commands and what they name (42_command_catalog.md R181-R202). -/
def devNames : List (String × DevCmd) :=
  [("RESET", .devReset), ("TEST_COMM", .testComm), ("TEST_RAM", .testRam), ("TEST_SENSOR", .testSensor),
   ("GET_FIRMWARE", .getFirmware), ("LED_ALL_OFF", .ledAllOff), ("LED_ALL_ON", .ledAllOn), ("LED_GREEN", .ledGreen),
   ("LED_YELLOW", .ledYellow), ("LED_RED", .ledRed), ("READ_ISO", .readIso), ("READ_RAW", .readRaw),
   ("WRITE_ISO", .writeIso), ("WRITE_RAW", .writeRaw), ("ERASE", .erase), ("SET_HICO", .setHico),
   ("SET_LOCO", .setLoco), ("GET_COERCIVITY", .getCoercivity), ("SET_BPI", .setBpi), ("SET_BPC", .setBpc),
   ("SET_LEADING_ZERO", .setLeadingZero), ("GET_LEADING_ZERO", .getLeadingZero)]

/-- The entry of a table of names. -/
def lookupName {α : Type} (table : List (String × α)) (w : Bytes) : Option α :=
  (table.find? fun e => ascii e.1 == w).map (·.2)

/-- A line whose operation has the given ARG byte and operands (R85). -/
def opTokens (o : OpCode) (arg : Byte) (ts : List Token) : Option (List HostCommand) :=
  (threeOperands ts).map fun (a, b, c) => [opLine o arg a b c]

/-- NORMALIZE and VALIDATE take the track number first (R85). -/
def trackTokens (o : OpCode) (ts : List Token) : Option (List HostCommand) :=
  match ts with
  | .word w :: rest => (numberBelow 10 256 w).bind fun n => opTokens o (BitVec.ofNat 8 n) rest
  | _ => none

/-- The commands of a line with a command-port mnemonic (R85). -/
def mnemonicTokens (o : OpCode) (ts : List Token) : Option (List HostCommand) :=
  match o with
  | .normalize => trackTokens .normalize ts
  | .validate => trackTokens .validate ts
  | .frame => opTokens .frame 0x00#8 ts
  | .unframe => opTokens .unframe 0x00#8 ts
  | .send => opTokens .send 0x00#8 ts
  | .receive => opTokens .receive 0x00#8 ts
  | .flush => opTokens .flush 0x00#8 ts
  | .buildIso => opTokens .buildIso 0x00#8 ts
  | .buildRaw => opTokens .buildRaw 0x00#8 ts
  | .parseIso => opTokens .parseIso 0x00#8 ts
  | .parseRaw => opTokens .parseRaw 0x00#8 ts

/-- `.word 0xHHHH [, op1, op2, op3]` (R85). -/
def rawWordTokens (ts : List Token) : Option (List HostCommand) :=
  match ts with
  | .word (0x30#8 :: 0x78#8 :: ds) :: rest =>
    if ds.length = 4 then
      (numberBelow 16 65536 ds).bind fun n =>
        (threeOperands rest).map fun (a, b, c) => [{ cw := BitVec.ofNat 16 n, a := a, b := b, c := c }]
    else none
  | _ => none

/-- `DEV name [, data]` (R86). -/
def devTokens (ts : List Token) : Option (List HostCommand) :=
  match ts with
  | [.word w] => (lookupName devNames w).map fun d => [devLine d .absent]
  | [.word w, o] => (lookupName devNames w).bind fun d => (operandOf o).map fun data => [devLine d data]
  | _ => none

/-- `ERASE m`, `m` as hex digits of one byte (R86). -/
def eraseTokens (ts : List Token) : Option (List HostCommand) :=
  match ts with
  | [.word w] => (numberBelow 16 256 w).map fun m => [eraseLine (BitVec.ofNat 8 m)]
  | _ => none

/-- The commands of one line: its mnemonic or pseudo-instruction with its arguments (R85, R86). -/
def lineTokens (ts : List Token) : Option (List HostCommand) :=
  match ts with
  | [] => some []
  | .word m :: rest =>
    (splitArgs rest).bind fun args =>
      match lookupName opNames m with
      | some o => mnemonicTokens o args
      | none =>
        if m = ascii ".word" then rawWordTokens args
        else if m = ascii "DEV" then devTokens args
        else if m = ascii "WRITE_ISO" then (threeOperands args).map fun (a, b, c) => writeIsoLines a b c
        else if m = ascii "WRITE_RAW" then (threeOperands args).map fun (a, b, c) => writeRawLines a b c
        else if m = ascii "ERASE" then eraseTokens args
        else none
  | _ => none

/-- One line of a program (R85). -/
def assembleLine (line : Bytes) : Option (List HostCommand) := (lex .between line).bind lineTokens

/-- The lines of a text, split at line feeds, those between quotes included (DESIGN CHOICE, log 18). -/
def splitLines : Bytes → Bytes → List Bytes
  | acc, [] => [acc.reverse]
  | acc, b :: s => if b = 0x0A#8 then acc.reverse :: splitLines [] s else splitLines (b :: acc) s

/-- A whole program: one command per line (R85). -/
def assemble (text : Bytes) : Option (List HostCommand) :=
  ((splitLines [] text).mapM assembleLine).map List.flatten

end Sys2Proof.Machine
end

