-- ==== Sys2Proof/Safety.lean ====
section
/-! DEFINITION. The terms claims use: the latches and results the spec's rules name, the invariant of the block, and
what counts as a safe step (10_state.md R22, R24, R30, R31, R38; 60_exceptions.md R231, R240). -/

namespace Sys2Proof.Safety

open Sys2Proof.Machine

/-- The latches after the acceptance of a command, as R102 and R22 say: an absent operand holds []. -/
def latched (op arg : Byte) (ops : Operands) : Latches where
  opl := op
  argl := arg
  a := ops.a.getD []
  pa := ops.a.isSome
  b := ops.b.getD []
  pb := ops.b.isSome
  c := ops.c.getD []
  pc := ops.c.isSome

/-- A finished result whose undefined fields hold the neutral values of R30. -/
def neutralResult (op : Byte) (st : Status) (ok : Bool) : ResultReg where
  valid := true
  op := op
  status := st
  ok := ok
  flag := false
  err := .none
  count := 0
  bytes := []
  pkts := []
  recs := []

/-- The result of an operation that finishes OK, its other fields neutral. -/
def okResult (op : Byte) : ResultReg := neutralResult op .ok true

/-- The result of an operation that finishes InvalidFormat. -/
def invalidFormatResult (op : Byte) : ResultReg := neutralResult op .invalidFormat false

/-- A size is within an optional bound (R8); an absent bound holds every size. -/
def within (cap : Option Nat) (n : Nat) : Prop := ∀ k, cap = some k → n ≤ k

/-- The fragment and is_last flag that R106 gives for an inbound report: a report with fewer bytes than its header
declares, or none, gives an empty fragment and is_last 0. -/
def reportFragment (r : Bytes) : Bytes × Bool :=
  match r with
  | [] => ([], false)
  | h :: tl => if h.toNat % 64 ≤ tl.length then (tl.take (h.toNat % 64), h.getLsbD 6) else ([], false)

/-- The report that a move appends to IN_Q, if it is an ENV append (R120). -/
def appended (m : Move) : Option Bytes :=
  match m with
  | .append r => some r
  | .present _ => none
  | .read _ => none
  | .deadline => none
  | .block _ => none
  | .linkOpen _ => none

/-- A move that is ENV's append or BLOCK's step. -/
def appendOrBlock (m : Move) : Bool :=
  match m with
  | .append _ => true
  | .block _ => true
  | .present _ => false
  | .read _ => false
  | .deadline => false
  | .linkOpen _ => false

/-- The operand HOST presents for a line's operand when RES_BYTES may be read (R85). -/
def presentedOperand (resBytes : Bytes) (o : HostOperand) : Operand :=
  match o with
  | .absent => none
  | .bytes s => some s
  | .res => some resBytes

/-- The codes of R230's table. -/
def statusTable : List (Status × Byte) :=
  [(.ok, 0x00#8), (.communicationError, 0x01#8), (.deviceNotFound, 0x02#8), (.alreadyConnected, 0x03#8),
   (.notConnected, 0x04#8), (.noCardSwipe, 0x05#8), (.invalidFormat, 0x06#8), (.readWriteMismatch, 0x07#8),
   (.unknownStatus, 0x08#8), (.timeout, 0x10#8), (.emptyMessage, 0x11#8), (.rxOverflow, 0x12#8),
   (.illegalOperation, 0x13#8)]

/-- The codes of R39's table. -/
def trackErrTable : List (TrackErr × Byte) :=
  [(.none, 0x00#8), (.decode, 0x01#8), (.length, 0x02#8), (.charset, 0x03#8)]

/-- The numbers of R21. -/
def modeTable : List (Mode × Byte) := [(.idle, 0x00#8), (.tx, 0x01#8), (.rx, 0x02#8)]

/-- The data of the first record of a track as an operand, absent when no record is the track's: what copy writes back
and what compare looks at (R211, R212; log 24). -/
def firstData (t : Track) : List TrackRecord → HostOperand
  | [] => .absent
  | r :: recs => if r.track = t then .bytes r.data else firstData t recs

/-- TERMS of R160, byte by byte. -/
def terminators : List Bytes :=
  [[0x1B#8, 0x01#8], [0x1B#8, 0x02#8], [0x1B#8, 0x03#8], [0x1B#8, 0x30#8], [0x1B#8, 0x31#8], [0x3F#8, 0x1C#8]]

/-- The instructions of the track codec (R2, R140). -/
def isCodec (i : Instr) : Prop :=
  (∃ t ops, i = .normalize t ops) ∨ (∃ t ops, i = .validate t ops) ∨ (∃ ops, i = .buildIso ops) ∨
    (∃ ops, i = .buildRaw ops) ∨ (∃ ops, i = .parseIso ops) ∨ (∃ ops, i = .parseRaw ops)

/-- R231's table: the statuses that an operation can finish with, those of its acceptance included. A reserved OP
finishes IllegalOperation (R84). -/
def statusAllowed (op : Byte) (st : Status) : Prop :=
  match OpCode.ofByte op with
  | none => st = .illegalOperation
  | some .frame => st = .ok ∨ st = .invalidFormat
  | some .unframe => st = .ok ∨ st = .invalidFormat
  | some .send => st = .ok ∨ st = .invalidFormat ∨ st = .communicationError
  | some .receive => st = .ok ∨ st = .invalidFormat ∨ st = .timeout ∨ st = .emptyMessage ∨ st = .rxOverflow
  | some .flush => st = .ok ∨ st = .invalidFormat
  | some .normalize => st = .ok ∨ st = .invalidFormat
  | some .validate => st = .ok ∨ st = .invalidFormat
  | some .buildIso => st = .ok ∨ st = .invalidFormat
  | some .buildRaw => st = .ok ∨ st = .invalidFormat
  | some .parseIso => st = .ok ∨ st = .invalidFormat
  | some .parseRaw => st = .ok ∨ st = .invalidFormat

/-- R30's last column: a field is not neutral only after an operation that defines it. -/
structure FieldsDefined (r : ResultReg) : Prop where
  flag : r.flag = true → r.op = 0x02#8 ∨ r.op = 0x04#8 ∨ r.op = 0x11#8
  err : r.err ≠ .none → r.op = 0x11#8
  count : r.count ≠ 0 → r.op = 0x01#8 ∨ r.op = 0x03#8 ∨ r.op = 0x05#8
  bytes : r.bytes ≠ [] →
    r.op = 0x02#8 ∨ r.op = 0x04#8 ∨ r.op = 0x10#8 ∨ r.op = 0x12#8 ∨ r.op = 0x13#8
  pkts : r.pkts ≠ [] → r.op = 0x01#8
  recs : r.recs ≠ [] → r.op = 0x14#8 ∨ r.op = 0x15#8

/-- The invariant of the block. -/
structure Inv (s : State) : Prop where
  /-- R24: a SEND in flight has a next report. -/
  txInRange : s.mode = .tx → s.txIdx < s.txPkts.length
  /-- R24: TX_PKTS and TX_IDX are cleared when SEND finishes. -/
  txCleared : s.mode ≠ .tx → s.txPkts = [] ∧ s.txIdx = 0
  /-- R24, R70: a report is 64 bytes. -/
  txReports : ∀ r ∈ s.txPkts, r.length = 64
  /-- R55: whole 64-byte reports leave the block. -/
  outReports : ∀ r ∈ s.out, r.length = 64
  /-- R110: only SEND transmits. -/
  txIsSend : s.mode = .tx → s.lat.opl = 0x03#8
  /-- R115: only RECEIVE receives. -/
  rxIsReceive : s.mode = .rx → s.lat.opl = 0x04#8
  /-- R116: a RECEIVE in flight has seen no last fragment. -/
  rxNotLast : s.mode = .rx → s.rxLast = false
  /-- R119: the accumulator stays within RX_CAP. -/
  rxWithin : s.mode = .rx → within s.params.rxCap s.rxAcc.length
  /-- R31: no result is valid while an operation is in flight. -/
  busyInvalid : s.mode ≠ .idle → s.res.valid = false
  /-- R100, R66: a valid result names the command accepted last. -/
  namesCommand : s.res.valid = true → s.res.op = s.lat.opl
  /-- R30: RES_OK is 1 iff RES_STATUS is OK. -/
  okIffStatus : s.res.valid = true → (s.res.ok = true ↔ s.res.status = .ok)
  /-- R231. -/
  statusLegal : s.res.valid = true → statusAllowed s.res.op s.res.status
  /-- R30. -/
  fieldsLegal : s.res.valid = true → FieldsDefined s.res
  /-- R70: FRAME's packets are 64 bytes. -/
  resPackets : ∀ r ∈ s.res.pkts, r.length = 64
  /-- R38: a record is valid iff its error is NONE. -/
  recordsLegal : ∀ r ∈ s.res.recs, (r.valid = true ↔ r.err = .none)
  /-- R22: an absent operand holds []. -/
  absentA : s.lat.pa = false → s.lat.a = []
  absentB : s.lat.pb = false → s.lat.b = []
  absentC : s.lat.pc = false → s.lat.c = []

/-- A safe step: it ends in a next state, or it is HOST's read of a result that is not valid (R31, R240). -/
def SafeOutcome (o : Host.Outcome State Fault Refusal) : Prop :=
  (∃ t, o = .next t) ∨ ∃ sel, o = .fault (.resultNotValid sel)

end Sys2Proof.Safety
end

