-- ==== Sys2Proof/WellFormed.lean ====
section
/-! DEFINITION. Which instructions are well formed: the operands the spec gives each row (30_encoding.md R82, R83;
42_command_catalog.md R181-R206). The machine runs ill-formed ones too, with the outcome the spec gives (log 16). -/

namespace Sys2Proof

/-- One operand within a raw track's one-byte length (41_track_codec.md R153). -/
def rawTrackFits (o : Operand) : Bool := decide ((o.getD []).length ≤ 255)

/-- The erase data: one byte whose bits 7:3 are 0 (R205). -/
def eraseDataOk (data : Operand) : Bool :=
  match data with
  | some [m] => decide (m.toNat < 8)
  | _ => false

/-- The set-BPI data: a track number and a code 0 or 1 (R206). -/
def bpiDataOk (data : Operand) : Bool :=
  match data with
  | some [t, code] => (Track.ofByte t).isSome && decide (code.toNat < 2)
  | _ => false

/-- A SEND that no device command of the catalog names: the only instruction whose command would decode to another
one (R180). -/
def Instr.canonical : Instr → Bool
  | .send ops => !isCatalogOpcode ops.a
  | _ => true

/-- The operands each row asks for. -/
def Instr.wellFormed : Instr → Bool
  | .frame _ => true
  | .unframe ops => ops.a.isSome
  | .send ops => ((ops.a.getD []).length == 1 || (ops.a.getD []).length == 2) && !isCatalogOpcode ops.a
  | .receive _ => true
  | .flush _ => true
  | .normalize t _ => (Track.ofByte t).isSome
  | .validate t _ => (Track.ofByte t).isSome
  | .buildIso _ => true
  | .buildRaw ops => rawTrackFits ops.a && rawTrackFits ops.b && rawTrackFits ops.c
  | .parseIso _ => true
  | .parseRaw _ => true
  | .devReset data _ => data.isNone
  | .testComm data _ => data.isNone
  | .testRam data _ => data.isNone
  | .testSensor data _ => data.isNone
  | .getFirmware data _ => data.isNone
  | .ledAllOff data _ => data.isNone
  | .ledAllOn data _ => data.isNone
  | .ledGreen data _ => data.isNone
  | .ledYellow data _ => data.isNone
  | .ledRed data _ => data.isNone
  | .readIso data _ => data.isNone
  | .readRaw data _ => data.isNone
  | .writeIso data _ => data.isSome
  | .writeRaw data _ => data.isSome
  | .erase data _ => eraseDataOk data
  | .setHico data _ => data.isNone
  | .setLoco data _ => data.isNone
  | .getCoercivity data _ => data.isNone
  | .setBpi data _ => bpiDataOk data
  | .setBpc _ _ => true
  | .setLeadingZero _ _ => true
  | .getLeadingZero data _ => data.isNone

end Sys2Proof
end

