-- ==== Sys2Proof/Certificates/Slice0/Obligations.lean ====
section
/-! DEFINITION. The statements for the provers. Each says what a rule of spec/ says of every state and every operand;
where one rests on a choice of the model, its docstring names the log entry. -/

open Sys2Proof Sys2Proof.Machine

/-! ### The step and the encoding -/

/-- R102: a command that decodes is taken from the port and run by the same step. The agenda and the port are the
model's (log 3, log 5). -/
def Obligations.StepRunsTheDecodedInstruction : Prop :=
  ∀ (s : State) (c : Command) (rest : List Command) (ans : EmitAnswer) (ms : List Move) (i : Instr),
    s.agenda = .block ans :: ms → s.mode = .idle → s.port = c :: rest → decode c = .instr i →
    step s = exec i { s with agenda := ms, port := rest }

/-- Log 4: a table word placed for fetching is the instruction the next step runs. -/
def Obligations.PlacedTableWordRunsNext : Prop :=
  ∀ (s : State) (w : Nat) (i : Instr),
    s.mode = .idle → decodeTableWord 16 w = some i → step (s.withFetchWord 16 w) = exec i s

/-- R84, R102, R232: a reserved OP finishes IllegalOperation whatever its ARG, an illegal ARG finishes InvalidFormat; the
command is latched and nothing else of the block changes. -/
def Obligations.RejectedCommandWordFinishesAtOnce : Prop :=
  ∀ (s : State) (c : Command) (rest : List Command) (ans : EmitAnswer) (ms : List Move),
    s.agenda = .block ans :: ms → s.mode = .idle → s.port = c :: rest →
    (c.op ∉ [0x01#8, 0x02#8, 0x03#8, 0x04#8, 0x05#8, 0x10#8, 0x11#8, 0x12#8, 0x13#8, 0x14#8, 0x15#8] →
      step s = .next { s with
        agenda := ms, port := rest, mode := .idle, lat := Safety.latched c.op c.arg c.ops,
        res := Safety.neutralResult c.op .illegalOperation false }) ∧
    (c.op ∈ [0x10#8, 0x11#8] → c.arg ∉ [0x01#8, 0x02#8, 0x03#8] →
      step s = .next { s with
        agenda := ms, port := rest, mode := .idle, lat := Safety.latched c.op c.arg c.ops,
        res := Safety.invalidFormatResult c.op }) ∧
    (c.op ∈ [0x01#8, 0x02#8, 0x03#8, 0x04#8, 0x05#8, 0x12#8, 0x13#8, 0x14#8, 0x15#8] → c.arg ≠ 0x00#8 →
      step s = .next { s with
        agenda := ms, port := rest, mode := .idle, lat := Safety.latched c.op c.arg c.ops,
        res := Safety.invalidFormatResult c.op })

/-- R101: while MODE is not IDLE a step of the block leaves the presented commands on the port and the latches as they
are. That running an instruction in such a state changes nothing is the model's (log 14), and so is the port as a list
(log 5). -/
def Obligations.CommandIsHeldWhileBusy : Prop :=
  (∀ (i : Instr) (s : State), s.mode ≠ .idle → exec i s = .next s) ∧
  ∀ (s t : State) (ans : EmitAnswer) (ms : List Move),
    s.agenda = .block ans :: ms → s.mode ≠ .idle → step s = .next t → t.port = s.port ∧ t.lat = s.lat

/-- R80-R82, R180: every instruction but a SEND spelled with a catalog opcode is read back from its encoding, every
operand and ARG byte included; every well-formed instruction is one of them. -/
def Obligations.DecodeOfEncodeIsTheInstruction : Prop :=
  (∀ i : Instr, i.wellFormed = true → i.canonical = true) ∧
  ∀ i : Instr, i.canonical = true → decode (encode i) = .instr i

/-- R80-R82, R180: an instruction the decoder reads encodes to the very command it was read from, so no two commands
decode to one instruction. -/
def Obligations.EncodeOfDecodedIsTheCommand : Prop :=
  ∀ (c : Command) (i : Instr), decode c = .instr i → encode i = c ∧ i.canonical = true

/-- R81, R181, R202: words of the opcode table, written out. -/
def Obligations.TableWordsDecodeAsWritten : Prop :=
  decodeTableWord 16 0b0000000100000000 = some (.frame ⟨none, none, none⟩) ∧
  decodeTableWord 16 0b0000001100000000 = some (.send ⟨none, none, none⟩) ∧
  decodeTableWord 16 0b0001000000000010 = some (.normalize 0x02#8 ⟨none, none, none⟩) ∧
  decodeTableWord 16 0b0001010100000000 = some (.parseRaw ⟨none, none, none⟩) ∧
  decodeTableWord 16 0b0001101101100001 = some (.devReset none none) ∧
  decodeTableWord 16 0b0001101110000110 = some (.testSensor none none) ∧
  decodeTableWord 16 0b0001101101101100 = some (.getLeadingZero none none)

/-! ### The packetizer -/

/-- R104: FRAME. -/
def Obligations.FrameStoresPacketsAndCount : Prop :=
  ∀ (ops : Operands) (s : State), s.mode = .idle →
    (encode (.frame ops)).cw = 0x0100#16 ∧
    (Safety.within s.params.maxPayload (ops.a.getD []).length →
      exec (.frame ops) s = .next { s with
        lat := Safety.latched 0x01#8 0x00#8 ops
        res := { Safety.okResult 0x01#8 with
          pkts := frame (ops.a.getD []), count := (max (ops.a.getD []).length 1 + 62) / 63 } }) ∧
    (¬ Safety.within s.params.maxPayload (ops.a.getD []).length →
      exec (.frame ops) s = .next { s with
        lat := Safety.latched 0x01#8 0x00#8 ops, res := Safety.invalidFormatResult 0x01#8 })

/-- R105: the six laws of `frame`, `unframe` among them. -/
def Obligations.FrameLawsAndRoundTrip : Prop :=
  ∀ p : Bytes,
    (frame p).length = (max p.length 1 + 62) / 63 ∧
    (∀ r ∈ frame p, r.length = 64) ∧
    (∀ (k : Nat) (r : Bytes), (frame p)[k]? = some r → ∃ h tl, r = h :: tl ∧
      (h.getLsbD 7 = true ↔ k = 0) ∧ (h.getLsbD 6 = true ↔ k + 1 = (frame p).length) ∧
      h.toNat % 64 = if k + 1 < (frame p).length then 63 else p.length - 63 * ((frame p).length - 1)) ∧
    ((frame p).map fun r => (r.headD 0x00#8).toNat % 64).sum = p.length ∧
    ((frame p).map fun r => (unframe r).1).flatten = p ∧
    ∀ (k : Nat) (r : Bytes), (frame p)[k]? = some r → (unframe r).2.1 = decide (k + 1 = (frame p).length)

/-- R72, R74, R75: the header values that FRAME emits, and the chunk and zero padding behind each. -/
def Obligations.FrameHeadersChunksAndPadding : Prop :=
  ∀ (p : Bytes) (k : Nat) (r : Bytes), (frame p)[k]? = some r →
    r.tail = (p.drop (63 * k)).take 63 ++ List.replicate (63 - ((p.drop (63 * k)).take 63).length) 0x00#8 ∧
    ((frame p).length = 1 → r.head? = some (BitVec.ofNat 8 (0xC0 + p.length))) ∧
    (2 ≤ (frame p).length → k = 0 → r.head? = some 0xBF#8) ∧
    (1 ≤ k → k + 1 < (frame p).length → r.head? = some 0x3F#8) ∧
    (2 ≤ (frame p).length → k + 1 = (frame p).length →
      r.head? = some (BitVec.ofNat 8 (0x40 + (p.length - 63 * k))) ∧
      1 ≤ p.length - 63 * k ∧ p.length - 63 * k ≤ 63)

/-- R107 with R106: UNFRAME completes for every report, whatever its bytes. -/
def Obligations.UnframeYieldsFragmentAndLastFlag : Prop :=
  ∀ (ops : Operands) (s : State), s.mode = .idle →
    (encode (.unframe ops)).cw = 0x0200#16 ∧
    (∀ h tl, ops.a = some (h :: tl) → h.toNat % 64 ≤ tl.length →
      exec (.unframe ops) s = .next { s with
        lat := Safety.latched 0x02#8 0x00#8 ops
        res := { Safety.okResult 0x02#8 with bytes := tl.take (h.toNat % 64), flag := h.getLsbD 6 } }) ∧
    (∀ h tl, ops.a = some (h :: tl) → tl.length < h.toNat % 64 →
      exec (.unframe ops) s = .next { s with
        lat := Safety.latched 0x02#8 0x00#8 ops, res := Safety.invalidFormatResult 0x02#8 }) ∧
    (ops.a = none ∨ ops.a = some [] →
      exec (.unframe ops) s = .next { s with
        lat := Safety.latched 0x02#8 0x00#8 ops, res := Safety.invalidFormatResult 0x02#8 })

/-- R110: SEND's acceptance frames opcode and data, or finishes InvalidFormat. -/
def Obligations.SendAcceptanceFramesTheMessage : Prop :=
  ∀ (ops : Operands) (s : State), s.mode = .idle →
    (encode (.send ops)).cw = 0x0300#16 ∧
    ((ops.a.getD []).length = 1 ∨ (ops.a.getD []).length = 2 →
      Safety.within s.params.maxPayload (ops.a.getD [] ++ ops.b.getD []).length →
      exec (.send ops) s = .next { s with
        lat := Safety.latched 0x03#8 0x00#8 ops, res := { s.res with valid := false }, mode := .tx
        txPkts := frame (ops.a.getD [] ++ ops.b.getD []), txIdx := 0 }) ∧
    ((ops.a.getD []).length = 1 ∨ (ops.a.getD []).length = 2 →
      ¬ Safety.within s.params.maxPayload (ops.a.getD [] ++ ops.b.getD []).length →
      exec (.send ops) s = .next { s with
        lat := Safety.latched 0x03#8 0x00#8 ops, res := Safety.invalidFormatResult 0x03#8 }) ∧
    ((ops.a.getD []).length ≠ 1 → (ops.a.getD []).length ≠ 2 →
      exec (.send ops) s = .next { s with
        lat := Safety.latched 0x03#8 0x00#8 ops, res := Safety.invalidFormatResult 0x03#8 })

/-- R181-R191: each of these device commands is the SEND of its opcode and data; without data it goes out as one report
with header C2. -/
def Obligations.DeviceQueriesAndLedsAreSent : Prop :=
  ∀ (data spare : Operand) (s : State), s.mode = .idle →
    ∀ p ∈ [(Instr.devReset data spare, 0x61#8), (.testComm data spare, 0x65#8), (.testRam data spare, 0x74#8),
        (.testSensor data spare, 0x86#8), (.getFirmware data spare, 0x76#8), (.ledAllOff data spare, 0x81#8),
        (.ledAllOn data spare, 0x82#8), (.ledGreen data spare, 0x83#8), (.ledYellow data spare, 0x84#8),
        (.ledRed data spare, 0x85#8), (.readIso data spare, 0x72#8)],
      encode p.1 = ⟨0x0300#16, ⟨some [0x1B#8, p.2], data, spare⟩⟩ ∧
      (Safety.within s.params.maxPayload (2 + (data.getD []).length) →
        exec p.1 s = .next { s with
          lat := Safety.latched 0x03#8 0x00#8 ⟨some [0x1B#8, p.2], data, spare⟩
          res := { s.res with valid := false }, mode := .tx
          txPkts := frame ([0x1B#8, p.2] ++ data.getD []), txIdx := 0 }) ∧
      (¬ Safety.within s.params.maxPayload (2 + (data.getD []).length) →
        exec p.1 s = .next { s with
          lat := Safety.latched 0x03#8 0x00#8 ⟨some [0x1B#8, p.2], data, spare⟩
          res := Safety.invalidFormatResult 0x03#8 }) ∧
      frame [0x1B#8, p.2] = [[0xC2#8, 0x1B#8, p.2] ++ List.replicate 61 0x00#8]

/-- R192-R202: the other device commands, likewise. -/
def Obligations.DeviceWritesAndSettingsAreSent : Prop :=
  ∀ (data spare : Operand) (s : State), s.mode = .idle →
    ∀ p ∈ [(Instr.readRaw data spare, 0x6D#8), (.writeIso data spare, 0x77#8), (.writeRaw data spare, 0x6E#8),
        (.erase data spare, 0x63#8), (.setHico data spare, 0x78#8), (.setLoco data spare, 0x79#8),
        (.getCoercivity data spare, 0x64#8), (.setBpi data spare, 0x62#8), (.setBpc data spare, 0x6F#8),
        (.setLeadingZero data spare, 0x7A#8), (.getLeadingZero data spare, 0x6C#8)],
      encode p.1 = ⟨0x0300#16, ⟨some [0x1B#8, p.2], data, spare⟩⟩ ∧
      (Safety.within s.params.maxPayload (2 + (data.getD []).length) →
        exec p.1 s = .next { s with
          lat := Safety.latched 0x03#8 0x00#8 ⟨some [0x1B#8, p.2], data, spare⟩
          res := { s.res with valid := false }, mode := .tx
          txPkts := frame ([0x1B#8, p.2] ++ data.getD []), txIdx := 0 }) ∧
      (¬ Safety.within s.params.maxPayload (2 + (data.getD []).length) →
        exec p.1 s = .next { s with
          lat := Safety.latched 0x03#8 0x00#8 ⟨some [0x1B#8, p.2], data, spare⟩
          res := Safety.invalidFormatResult 0x03#8 }) ∧
      frame [0x1B#8, p.2] = [[0xC2#8, 0x1B#8, p.2] ++ List.replicate 61 0x00#8]

/-- R111: one transmit step, for each answer of ENV. What ENV accepted is the model's field `out` (log 12); the agenda is
the model's (log 3). -/
def Obligations.TransmitStepEmitsOneReport : Prop :=
  ∀ (s : State) (r : Bytes) (ans : EmitAnswer) (ms : List Move),
    s.agenda = .block ans :: ms → s.mode = .tx → s.txPkts[s.txIdx]? = some r →
    (ans = .fail → step s = .next { s with
      agenda := ms, mode := .idle, txPkts := [], txIdx := 0
      res := { Safety.neutralResult s.lat.opl .communicationError false with count := s.txIdx } }) ∧
    (ans = .ok → s.txIdx + 1 = s.txPkts.length → step s = .next { s with
      agenda := ms, mode := .idle, txPkts := [], txIdx := 0, out := s.out ++ [r]
      res := { Safety.okResult s.lat.opl with count := s.txPkts.length } }) ∧
    (ans = .ok → s.txIdx + 1 ≠ s.txPkts.length → step s = .next { s with
      agenda := ms, txIdx := s.txIdx + 1, out := s.out ++ [r] })

/-- R110, R111, R58, R66: a SEND whose reports ENV all accepts puts exactly the framed message on the outbound port, in
order, and finishes OK with the number of reports. Agenda and `out` are the model's (log 3, log 12). -/
def Obligations.SendDeliversEveryReport : Prop :=
  ∀ (ops : Operands) (s : State) (ms : List Move),
    s.mode = .idle → (ops.a.getD []).length = 1 ∨ (ops.a.getD []).length = 2 →
    Safety.within s.params.maxPayload (ops.a.getD [] ++ ops.b.getD []).length →
    s.agenda = List.replicate (frame (ops.a.getD [] ++ ops.b.getD [])).length (.block .ok) ++ ms →
    ∃ t, exec (.send ops) s = .next t ∧
      Sys2Proof.core.run (frame (ops.a.getD [] ++ ops.b.getD [])).length t = .next { s with
        agenda := ms, mode := .idle, lat := Safety.latched 0x03#8 0x00#8 ops, txPkts := [], txIdx := 0
        out := s.out ++ frame (ops.a.getD [] ++ ops.b.getD [])
        res := { Safety.okResult 0x03#8 with
          count := (max (ops.a.getD [] ++ ops.b.getD []).length 1 + 62) / 63 } }

/-- R110, R111, R55: a SEND stops at ENV's first FAIL: the reports before it have been written, none is rolled back or
retried, and RES_COUNT says how many. Agenda and `out` are the model's (log 3, log 12), and so is leaving the failed
report out of `out` (log 28). -/
def Obligations.SendStopsAtTheFirstFailure : Prop :=
  ∀ (ops : Operands) (s : State) (k : Nat) (ms : List Move),
    s.mode = .idle → (ops.a.getD []).length = 1 ∨ (ops.a.getD []).length = 2 →
    Safety.within s.params.maxPayload (ops.a.getD [] ++ ops.b.getD []).length →
    k < (frame (ops.a.getD [] ++ ops.b.getD [])).length →
    s.agenda = List.replicate k (.block .ok) ++ .block .fail :: ms →
    ∃ t, exec (.send ops) s = .next t ∧
      Sys2Proof.core.run (k + 1) t = .next { s with
        agenda := ms, mode := .idle, lat := Safety.latched 0x03#8 0x00#8 ops, txPkts := [], txIdx := 0
        out := s.out ++ (frame (ops.a.getD [] ++ ops.b.getD [])).take k
        res := { Safety.neutralResult 0x03#8 .communicationError false with count := k } }

/-- R115: RECEIVE's acceptance clears the accumulator and leaves IN_Q as it is. -/
def Obligations.ReceiveAcceptanceStartsEmpty : Prop :=
  ∀ (ops : Operands) (s : State), s.mode = .idle →
    (encode (.receive ops)).cw = 0x0400#16 ∧
    exec (.receive ops) s = .next { s with
      lat := Safety.latched 0x04#8 0x00#8 ops, res := { s.res with valid := false }
      rxAcc := [], rxLast := false, mode := .rx }

/-- R116, R117, R119, R106: one report step of RECEIVE, in each of its cases. That with IN_Q empty the block's move changes
nothing is the model's reading (log 9); the agenda is the model's (log 3). -/
def Obligations.ReceiveStepTakesOneReport : Prop :=
  ∀ (s : State) (ans : EmitAnswer) (ms : List Move), s.agenda = .block ans :: ms → s.mode = .rx →
    (s.inQ = [] → step s = .next { s with agenda := ms }) ∧
    ∀ (r : Bytes) (q : List Bytes), s.inQ = r :: q →
      (¬ Safety.within s.params.rxCap (s.rxAcc.length + (Safety.reportFragment r).1.length) →
        step s = .next { s with
          agenda := ms, inQ := q, mode := .idle, rxAcc := []
          res := Safety.neutralResult s.lat.opl .rxOverflow false }) ∧
      (Safety.within s.params.rxCap (s.rxAcc.length + (Safety.reportFragment r).1.length) →
        (Safety.reportFragment r).2 = false →
        step s = .next { s with agenda := ms, inQ := q, rxAcc := s.rxAcc ++ (Safety.reportFragment r).1 }) ∧
      (Safety.within s.params.rxCap (s.rxAcc.length + (Safety.reportFragment r).1.length) →
        (Safety.reportFragment r).2 = true → s.rxAcc ++ (Safety.reportFragment r).1 ≠ [] →
        step s = .next { s with
          agenda := ms, inQ := q, mode := .idle, rxLast := true
          rxAcc := s.rxAcc ++ (Safety.reportFragment r).1
          res := { Safety.okResult s.lat.opl with
            bytes := s.rxAcc ++ (Safety.reportFragment r).1, flag := true } }) ∧
      (Safety.within s.params.rxCap (s.rxAcc.length + (Safety.reportFragment r).1.length) →
        (Safety.reportFragment r).2 = true → s.rxAcc ++ (Safety.reportFragment r).1 = [] →
        step s = .next { s with
          agenda := ms, inQ := q, mode := .idle, rxLast := true, rxAcc := []
          res := { Safety.neutralResult s.lat.opl .emptyMessage false with flag := true } })

/-- R117, R118: DEADLINE ends a RECEIVE with the partial bytes or with Timeout, and does nothing in any other MODE. -/
def Obligations.DeadlineEndsOnlyAReceive : Prop :=
  ∀ (s : State) (ms : List Move), s.agenda = .deadline :: ms →
    (s.mode = .rx → s.rxAcc ≠ [] → step s = .next { s with
      agenda := ms, mode := .idle, res := { Safety.okResult s.lat.opl with bytes := s.rxAcc } }) ∧
    (s.mode = .rx → s.rxAcc = [] → step s = .next { s with
      agenda := ms, mode := .idle, res := Safety.neutralResult s.lat.opl .timeout false }) ∧
    (s.mode ≠ .rx → step s = .next { s with agenda := ms })

/-- R120: ENV's append goes to the tail of IN_Q in every MODE while there is room, and is dropped otherwise. -/
def Obligations.EnvAppendGoesToTheTail : Prop :=
  ∀ (s : State) (r : Bytes) (ms : List Move), s.agenda = .append r :: ms →
    ((∀ cap, s.params.inqCap = some cap → s.inQ.length < cap) →
      step s = .next { s with agenda := ms, inQ := s.inQ ++ [r] }) ∧
    (∀ cap, s.params.inqCap = some cap → cap ≤ s.inQ.length → step s = .next { s with agenda := ms })

/-- R123: a RECEIVE that ENV answers with the reports of `frame(M)`, in order and in any interleaving with the block's
steps, ends with M, or with EmptyMessage when M is empty. The agenda is the model's (log 3), a block step that finds
nothing waits (log 9), and HOST presents nothing meanwhile. -/
def Obligations.ReceiveReassemblesTheMessage : Prop :=
  ∀ (s : State) (m : Bytes) (ms rest : List Move),
    s.mode = .rx → s.rxAcc = [] → s.inQ = [] → s.port = [] →
    s.params.rxCap = none → s.params.inqCap = none →
    (∀ x ∈ ms, Safety.appendOrBlock x = true) → ms.filterMap Safety.appended = frame m →
    s.agenda = ms ++ (List.replicate (frame m).length (.block .ok) ++ rest) →
    Sys2Proof.core.run (ms.length + (frame m).length) s = .next { s with
      agenda := rest, mode := .idle, rxAcc := m, rxLast := true
      res := if m = [] then { Safety.neutralResult s.lat.opl .emptyMessage false with flag := true }
        else { Safety.okResult s.lat.opl with bytes := m, flag := true } }

/-- R122: FLUSH empties IN_Q, counts what it discards, and never waits. -/
def Obligations.FlushDiscardsThePendingReports : Prop :=
  ∀ (ops : Operands) (s : State), s.mode = .idle →
    (encode (.flush ops)).cw = 0x0500#16 ∧
    exec (.flush ops) s = .next { s with
      lat := Safety.latched 0x05#8 0x00#8 ops, inQ := []
      res := { Safety.okResult 0x05#8 with count := s.inQ.length } }

/-! ### The track codec -/

/-- R142, R141: NORMALIZE's result is the text, upper-cased on track 1, without the maximal runs of leading start
sentinels and trailing '?'; a track number other than 1, 2, 3 finishes InvalidFormat, and that the rejected command is
latched is the model's reading of R102 against R84 (log 29). -/
def Obligations.NormalizeStripsTheSentinelRuns : Prop :=
  ∀ (b : Byte) (ops : Operands) (s : State), s.mode = .idle →
    (encode (.normalize b ops)).cw = 0x1000#16 ||| b.zeroExtend 16 ∧
    (b ∈ [0x01#8, 0x02#8, 0x03#8] → ∃ u,
      exec (.normalize b ops) s = .next { s with
        lat := Safety.latched 0x10#8 b ops, res := { Safety.okResult 0x10#8 with bytes := u } } ∧
      u.head? ≠ some (if b = 0x01#8 then 0x25#8 else 0x3B#8) ∧ u.getLast? ≠ some 0x3F#8 ∧
      ∃ i j, (if b = 0x01#8 then
          (ops.a.getD []).map fun x => if 0x61 ≤ x.toNat ∧ x.toNat ≤ 0x7A then x - 0x20#8 else x
        else ops.a.getD []) =
        List.replicate i (if b = 0x01#8 then 0x25#8 else 0x3B#8) ++ u ++ List.replicate j 0x3F#8) ∧
    (b ∉ [0x01#8, 0x02#8, 0x03#8] →
      exec (.normalize b ops) s = .next { s with
        lat := Safety.latched 0x10#8 b ops, res := Safety.invalidFormatResult 0x10#8 })

/-- R143: normalizing a normalized text changes nothing. -/
def Obligations.NormalizeIsIdempotent : Prop :=
  ∀ (p : Config.Params) (t : Track) (s : Bytes), norm p t (norm p t s) = norm p t s

/-- R145, R146, R141: VALIDATE reports LENGTH before CHARSET, and a valid text otherwise; a track number other than 1, 2,
3 finishes InvalidFormat, and that the rejected command is latched is the model's reading of R102 against R84 (log 29). -/
def Obligations.ValidateReportsLengthThenCharset : Prop :=
  ∀ (b : Byte) (ops : Operands) (s : State), s.mode = .idle →
    (encode (.validate b ops)).cw = 0x1100#16 ||| b.zeroExtend 16 ∧
    (∀ p ∈ [(0x01#8, s.params.maxLen1), (0x02#8, s.params.maxLen2), (0x03#8, s.params.maxLen3)], b = p.1 →
      (p.2 < (ops.a.getD []).length → exec (.validate b ops) s = .next { s with
        lat := Safety.latched 0x11#8 b ops, res := { Safety.okResult 0x11#8 with err := .length } }) ∧
      ((ops.a.getD []).length ≤ p.2 →
        (∃ x ∈ ops.a.getD [], ¬ (if b = 0x01#8 then 0x20 ≤ x.toNat ∧ x.toNat ≤ 0x5F
          else (0x30 ≤ x.toNat ∧ x.toNat ≤ 0x3F) ∨ x = 0x25#8)) →
        exec (.validate b ops) s = .next { s with
          lat := Safety.latched 0x11#8 b ops, res := { Safety.okResult 0x11#8 with err := .charset } }) ∧
      ((ops.a.getD []).length ≤ p.2 →
        (∀ x ∈ ops.a.getD [], if b = 0x01#8 then 0x20 ≤ x.toNat ∧ x.toNat ≤ 0x5F
          else (0x30 ≤ x.toNat ∧ x.toNat ≤ 0x3F) ∨ x = 0x25#8) →
        exec (.validate b ops) s = .next { s with
          lat := Safety.latched 0x11#8 b ops, res := { Safety.okResult 0x11#8 with flag := true } })) ∧
    (b ∉ [0x01#8, 0x02#8, 0x03#8] →
      exec (.validate b ops) s = .next { s with
        lat := Safety.latched 0x11#8 b ops, res := Safety.invalidFormatResult 0x11#8 })

/-- R266: a text that holds ESC or FS, as every delimiter pair does, is valid on no track. -/
def Obligations.DelimiterTextIsNeverValid : Prop :=
  (∀ (p : Config.Params) (t : Track) (s : Bytes), 0x1B#8 ∈ s ∨ 0x1C#8 ∈ s → validate p t s ≠ .none) ∧
  ∀ (p : Config.Params) (t : Track) (u v d : Bytes), d ∈ [0x1B#8, 0x73#8] :: Safety.terminators →
    validate p t (u ++ d ++ v) ≠ .none

/-- R150, R91: BUILD_ISO's payload, byte by byte, and its length. -/
def Obligations.BuildIsoEmitsTheIsoPayload : Prop :=
  ∀ (ops : Operands) (s : State), s.mode = .idle →
    (encode (.buildIso ops)).cw = 0x1200#16 ∧
    ∃ n1 n2 n3,
      n1 = (match ops.a with | some x => norm s.params .t1 x | none => []) ∧
      n2 = (match ops.b with | some x => norm s.params .t2 x | none => []) ∧
      n3 = (match ops.c with | some x => norm s.params .t3 x | none => []) ∧
      ∃ payload, payload = [0x1B#8, 0x73#8, 0x1B#8, 0x01#8] ++ n1 ++ [0x1B#8, 0x02#8] ++ n2 ++
          [0x1B#8, 0x03#8] ++ n3 ++ [0x3F#8, 0x1C#8] ∧
        payload.length = 10 + n1.length + n2.length + n3.length ∧
        exec (.buildIso ops) s = .next { s with
          lat := Safety.latched 0x12#8 0x00#8 ops, res := { Safety.okResult 0x12#8 with bytes := payload } }

/-- R153, R92: BUILD_RAW's payload, byte by byte, and its length; a track above 255 bytes is InvalidFormat. -/
def Obligations.BuildRawEmitsLengthPrefixedSections : Prop :=
  ∀ (ops : Operands) (s : State), s.mode = .idle →
    (encode (.buildRaw ops)).cw = 0x1300#16 ∧
    ((ops.a.getD []).length ≤ 255 → (ops.b.getD []).length ≤ 255 → (ops.c.getD []).length ≤ 255 →
      ∃ payload l1 l2 l3,
        l1.toNat = (ops.a.getD []).length ∧ l2.toNat = (ops.b.getD []).length ∧
        l3.toNat = (ops.c.getD []).length ∧
        payload = [0x1B#8, 0x73#8, 0x1B#8, 0x01#8, l1] ++ ops.a.getD [] ++ [0x1B#8, 0x02#8, l2] ++ ops.b.getD [] ++
          [0x1B#8, 0x03#8, l3] ++ ops.c.getD [] ++ [0x3F#8, 0x1C#8] ∧
        payload.length = 13 + (ops.a.getD []).length + (ops.b.getD []).length + (ops.c.getD []).length ∧
        exec (.buildRaw ops) s = .next { s with
          lat := Safety.latched 0x13#8 0x00#8 ops, res := { Safety.okResult 0x13#8 with bytes := payload } }) ∧
    (255 < (ops.a.getD []).length ∨ 255 < (ops.b.getD []).length ∨ 255 < (ops.c.getD []).length →
      exec (.buildRaw ops) s = .next { s with
        lat := Safety.latched 0x13#8 0x00#8 ops, res := Safety.invalidFormatResult 0x13#8 })

/-- R95: an absent track and a present empty one build the same result, in both payloads. -/
def Obligations.AbsentAndEmptyTracksBuildAlike : Prop :=
  ∀ (ops : Operands) (s : State), s.mode = .idle →
    (∃ t t', exec (.buildIso ops) s = .next t ∧
      exec (.buildIso ⟨some (ops.a.getD []), some (ops.b.getD []), some (ops.c.getD [])⟩) s = .next t' ∧
      t.res = t'.res) ∧
    ∃ t t', exec (.buildRaw ops) s = .next t ∧
      exec (.buildRaw ⟨some (ops.a.getD []), some (ops.b.getD []), some (ops.c.getD [])⟩) s = .next t' ∧
      t.res = t'.res

/-- R160: a track's slice runs from just after the first occurrence of its marker to the nearest of TERMS, or to the
end of the response; it is omitted exactly when the marker does not occur. -/
def Obligations.SliceRunsFromMarkerToTerminator : Prop :=
  ∀ (resp : Bytes) (t : Track),
    (slice resp t = none ↔ ∀ j, ¬ [0x1B#8, t.byte] <+: resp.drop j) ∧
    ∀ d, slice resp t = some d ↔ ∃ m e,
      [0x1B#8, t.byte] <+: resp.drop m ∧ (∀ j, j < m → ¬ [0x1B#8, t.byte] <+: resp.drop j) ∧
      m + 2 ≤ e ∧ e ≤ resp.length ∧
      (∀ j, m + 2 ≤ j → j < e → ∀ p ∈ Safety.terminators, ¬ p <+: resp.drop j) ∧
      (e = resp.length ∨ ∃ p ∈ Safety.terminators, p <+: resp.drop e) ∧
      d = (resp.drop (m + 2)).take (e - (m + 2))

/-- R166: slices of different tracks never overlap: one ends at or before the other's marker. -/
def Obligations.SlicesOfTracksNeverOverlap : Prop :=
  ∀ (resp : Bytes) (t u : Track) (x y : Nat × Nat), t ≠ u →
    sliceBounds resp t = some x → sliceBounds resp u = some y →
    x.1 ≤ x.2 ∧ x.2 ≤ resp.length ∧ y.1 ≤ y.2 ∧ y.2 ≤ resp.length ∧ (x.2 + 2 ≤ y.1 ∨ y.2 + 2 ≤ x.1)

/-- R161, R162: PARSE_ISO always finishes OK, with one record per slice, in track order. -/
def Obligations.ParseIsoDecodesEverySlice : Prop :=
  ∀ (ops : Operands) (s : State), s.mode = .idle →
    (encode (.parseIso ops)).cw = 0x1400#16 ∧
    ∃ recs, exec (.parseIso ops) s = .next { s with
        lat := Safety.latched 0x14#8 0x00#8 ops, res := { Safety.okResult 0x14#8 with recs := recs } } ∧
      (recs.map TrackRecord.track).Sublist [.t1, .t2, .t3] ∧
      ∀ (t : Track) (r : TrackRecord), r ∈ recs ∧ r.track = t ↔ ∃ sl, slice (ops.a.getD []) t = some sl ∧
        ((∃ b ∈ sl, 0x80 ≤ b.toNat) → r = ⟨t, [], false, .decode⟩) ∧
        ((∀ b ∈ sl, b.toNat < 0x80) → ∃ x, x = sl.filter (fun b => 0x20 ≤ b.toNat ∧ b.toNat ≠ 0x7F) ∧
          r = ⟨t, x, decide (validate s.params t x = .none), validate s.params t x⟩)

/-- R165: PARSE_RAW always finishes OK, with one valid record per slice, kept byte for byte. -/
def Obligations.ParseRawKeepsEverySlice : Prop :=
  ∀ (ops : Operands) (s : State), s.mode = .idle →
    (encode (.parseRaw ops)).cw = 0x1500#16 ∧
    ∃ recs, exec (.parseRaw ops) s = .next { s with
        lat := Safety.latched 0x15#8 0x00#8 ops, res := { Safety.okResult 0x15#8 with recs := recs } } ∧
      (recs.map TrackRecord.track).Sublist [.t1, .t2, .t3] ∧
      ∀ (t : Track) (r : TrackRecord), r ∈ recs ∧ r.track = t ↔
        ∃ sl, slice (ops.a.getD []) t = some sl ∧ r = ⟨t, sl, true, .none⟩

/-- R150, R151, R160-R162, R266: PARSE_ISO reads back from BUILD_ISO's payload every normalized text that VALIDATE
accepts. -/
def Obligations.ParseIsoReadsBackBuildIso : Prop :=
  ∀ (s : State) (x1 x2 x3 : Bytes), s.mode = .idle →
    validate s.params .t1 (norm s.params .t1 x1) = .none →
    validate s.params .t2 (norm s.params .t2 x2) = .none →
    validate s.params .t3 (norm s.params .t3 x3) = .none →
    ∃ t u, exec (.buildIso ⟨some x1, some x2, some x3⟩) s = .next t ∧
      exec (.parseIso ⟨some t.res.bytes, none, none⟩) t = .next u ∧
      u.res.recs = [⟨.t1, norm s.params .t1 x1, true, .none⟩, ⟨.t2, norm s.params .t2 x2, true, .none⟩,
        ⟨.t3, norm s.params .t3 x3, true, .none⟩]

/-- R140: a codec operation reads only its command and the TrackSpec parameters, and writes only the latches and the
result register. -/
def Obligations.CodecIsStateless : Prop :=
  ∀ (i : Instr) (s s' t t' : State), Safety.isCodec i → s.mode = .idle → s'.mode = .idle → s.params = s'.params →
    exec i s = .next t → exec i s' = .next t' →
    t.lat = t'.lat ∧ t.res = t'.res ∧ t = { s with lat := t.lat, res := t.res }

/-! ### The whole machine -/

/-- R24, R30, R31, R38, R231: the state after reset meets the invariant, whatever stands in IN_Q. The values of the
result fields at reset are the model's (log 7). -/
def Obligations.ResetMeetsTheInvariant : Prop := Safety.Inv State.reset

/-- R22, R24, R30, R31, R38, R55, R119, R231: every step of every agent keeps the invariant. -/
def Obligations.StepKeepsTheInvariant : Prop :=
  ∀ s t : State, Safety.Inv s → step s = .next t → Safety.Inv t

/-- R240, R31: from a state of the invariant a step never stops, except at HOST's read of a result that is not
valid. -/
def Obligations.StepStopsOnlyAtAnUnreadableResult : Prop :=
  ∀ s : State, Safety.Inv s →
    Safety.SafeOutcome (step s) ∧ ∀ sel, step s = .fault (.resultNotValid sel) → s.res.valid = false

/-- R240: no instruction traps, faults or is refused, in any state and with any operands. -/
def Obligations.InstructionsNeverTrap : Prop := ∀ (i : Instr) (s : State), ∃ t, exec i s = .next t

/-- R22, R63: the latches change only when a command is accepted, and then hold exactly that command, or when the Link is
opened. -/
def Obligations.LatchesChangeOnlyAtAcceptance : Prop :=
  ∀ s t : State, step s = .next t →
    (t.lat = s.lat ∧ (s.port <+: t.port)) ∨
    (s.mode = .idle ∧ ∃ c rest, s.port = c :: rest ∧ t.port = rest ∧ t.lat = Safety.latched c.op c.arg c.ops) ∨
    ∃ q, (nextMove s).1 = .linkOpen q

/-- R26, R59, R62: IN_Q changes only by ENV's append at its tail, RECEIVE's pop at its head, FLUSH, or the opening of the
Link. -/
def Obligations.InboundQueueChangesOnlyAsStated : Prop :=
  ∀ s t : State, step s = .next t →
    t.inQ = s.inQ ∨ (∃ r, (nextMove s).1 = .append r ∧ t.inQ = s.inQ ++ [r]) ∨
    (s.mode = .rx ∧ ∃ r, s.inQ = r :: t.inQ) ∨
    (s.mode = .idle ∧ t.inQ = [] ∧ t.res.valid = true ∧ t.res.op = 0x05#8 ∧ t.res.count = s.inQ.length) ∨
    (nextMove s).1 = .linkOpen t.inQ

/-- R55, R58: the outbound port carries only the next report of the SEND in flight, one a step. The field `out` is the
model's (log 12). -/
def Obligations.OutboundPortCarriesOnlySendReports : Prop :=
  ∀ s t : State, step s = .next t →
    t.out = s.out ∨ (s.mode = .tx ∧ ∃ r, s.txPkts[s.txIdx]? = some r ∧ t.out = s.out ++ [r])

/-- R8, R35: no step changes the parameters. That they stand in State is the model's choice (log 8). -/
def Obligations.ParametersNeverChange : Prop := ∀ s t : State, step s = .next t → t.params = s.params

/-- R40: the reset values that the spec gives. That the parameters stand in State, with R8's defaults at reset, is the
model's choice (log 8). -/
def Obligations.ResetLeavesTheStatedValues : Prop :=
  State.reset.mode = .idle ∧
  State.reset.lat = ⟨0x00#8, 0x00#8, [], false, [], false, [], false⟩ ∧
  State.reset.txPkts = [] ∧ State.reset.txIdx = 0 ∧ State.reset.rxAcc = [] ∧ State.reset.rxLast = false ∧
  State.reset.res.valid = false ∧ State.reset.params = ⟨79, 40, 107, none, none, none, 210, 75, 210, 7, 5, 5⟩

/-- R260, R261: opening the Link abandons what is in flight, writes no result, and leaves IN_Q to ENV; what it leaves of
HOST's side is the model's (log 13). -/
def Obligations.LinkOpenAbandonsTheOperation : Prop :=
  ∀ (s : State) (q : List Bytes) (ms : List Move), s.agenda = .linkOpen q :: ms →
    step s = .next { State.reset with
      inQ := q, params := s.params, port := s.port, agenda := ms, tick := s.tick, out := s.out, seen := s.seen }

/-! ### HOST -/

/-- R30, R31, R56, R21, R39, R230: which field each selector yields, and as which code; a read changes nothing of the
block, and a read of a result field while RES_VALID = 0 is a fault. `seen` is the model's (log 12), as is the fault's form
(log 10); MODE has no field number (log 25). -/
def Obligations.HostReadsOnlyAValidResult : Prop :=
  (∀ (s : State) (sel : ReadSel) (ms : List Move), s.agenda = .read sel :: ms →
    (sel = .mode → ∀ c, (s.mode, c) ∈ Safety.modeTable →
      step s = .next { s with agenda := ms, seen := some (.code c) }) ∧
    (sel = .valid → step s = .next { s with agenda := ms, seen := some (.bit s.res.valid) }) ∧
    (s.res.valid = true →
      (sel = .op → step s = .next { s with agenda := ms, seen := some (.code s.res.op) }) ∧
      (sel = .status → ∀ c, (s.res.status, c) ∈ Safety.statusTable →
        step s = .next { s with agenda := ms, seen := some (.code c) }) ∧
      (sel = .ok → step s = .next { s with agenda := ms, seen := some (.bit s.res.ok) }) ∧
      (sel = .flag → step s = .next { s with agenda := ms, seen := some (.bit s.res.flag) }) ∧
      (sel = .err → ∀ c, (s.res.err, c) ∈ Safety.trackErrTable →
        step s = .next { s with agenda := ms, seen := some (.code c) }) ∧
      (sel = .count → step s = .next { s with agenda := ms, seen := some (.nat s.res.count) }) ∧
      (sel = .bytes → step s = .next { s with agenda := ms, seen := some (.bytes s.res.bytes) }) ∧
      (sel = .pkts → step s = .next { s with agenda := ms, seen := some (.pkts s.res.pkts) }) ∧
      (sel = .recs → step s = .next { s with agenda := ms, seen := some (.recs s.res.recs) })) ∧
    (sel ≠ .mode → sel ≠ .valid → s.res.valid = false → step s = .fault (.resultNotValid sel))) ∧
  ([ReadSel.valid, .op, .status, .ok, .flag, .err, .count, .bytes, .pkts, .recs].map readNumber =
    (List.range 10).map some) ∧
  (∀ m : Mode, ∃ c, (m, c) ∈ Safety.modeTable) ∧ (∀ st : Status, ∃ c, (st, c) ∈ Safety.statusTable) ∧
  ∀ e : TrackErr, ∃ c, (e, c) ∈ Safety.trackErrTable

/-- R85, R31: HOST presents a line with `@RES` replaced by RES_BYTES; with RES_VALID = 0 that copy is a fault. The port is
the model's (log 5). -/
def Obligations.HostPresentsTheLine : Prop :=
  ∀ (s : State) (line : HostCommand) (ms : List Move), s.agenda = .present line :: ms →
    (s.res.valid = true ∨ (line.a ≠ .res ∧ line.b ≠ .res ∧ line.c ≠ .res) →
      step s = .next { s with
        agenda := ms
        port := s.port ++ [⟨line.cw, ⟨Safety.presentedOperand s.res.bytes line.a,
          Safety.presentedOperand s.res.bytes line.b, Safety.presentedOperand s.res.bytes line.c⟩⟩] }) ∧
    (s.res.valid = false → line.a = .res ∨ line.b = .res ∨ line.c = .res →
      step s = .fault (.resultNotValid .bytes))

/-- R210: a response is a success exactly when it has at least 2 bytes, whatever it says; an empty one is NoCardSwipe for
the five card commands. -/
def Obligations.ClassifyIsPermissive : Prop :=
  ∀ op resp : Bytes,
    (classify op resp = .success ↔ 2 ≤ resp.length) ∧
    (resp.length = 1 → classify op resp = .fail .unknownStatus) ∧
    (resp = [] →
      op ∈ [[0x1B#8, 0x72#8], [0x1B#8, 0x6D#8], [0x1B#8, 0x77#8], [0x1B#8, 0x6E#8], [0x1B#8, 0x63#8]] →
      classify op resp = .fail .noCardSwipe) ∧
    (resp = [] →
      op ∉ [[0x1B#8, 0x72#8], [0x1B#8, 0x6D#8], [0x1B#8, 0x77#8], [0x1B#8, 0x6E#8], [0x1B#8, 0x63#8]] →
      classify op resp = .fail .unknownStatus)

/-- R211: compare succeeds exactly when every expected track has a record that holds the normalized text; as soon as one
has none it answers the mismatch that lists, in increasing order, exactly the tracks that do not match; a failed read gives
its failure. The statuses are those of R230. In a list with two records of a track the first counts, which is the model's
reading (log 24). -/
def Obligations.CompareListsEveryMismatch : Prop :=
  ∀ (p : Config.Params) (x1 x2 x3 : Option Bytes) (recs : List TrackRecord),
    (compareTracks p ⟨x1, x2, x3⟩ (.records recs) = .success ↔
      ∀ t e, (t, some e) ∈ [(Track.t1, x1), (.t2, x2), (.t3, x3)] →
        Safety.firstData t recs = .bytes (norm p t e)) ∧
    ((∃ t e, (t, some e) ∈ [(Track.t1, x1), (.t2, x2), (.t3, x3)] ∧
        Safety.firstData t recs ≠ .bytes (norm p t e)) →
      ∃ ts, compareTracks p ⟨x1, x2, x3⟩ (.records recs) = .mismatch ts ∧
        compareStatus (.mismatch ts) = .readWriteMismatch ∧ ts.Sublist [.t1, .t2, .t3] ∧
        ∀ t, t ∈ ts ↔ ∃ e, (t, some e) ∈ [(Track.t1, x1), (.t2, x2), (.t3, x3)] ∧
          Safety.firstData t recs ≠ .bytes (norm p t e)) ∧
    (∀ st, compareTracks p ⟨x1, x2, x3⟩ (.failed st) = .readFailed st ∧ compareStatus (.readFailed st) = st) ∧
    compareStatus .success = .ok

/-- R212: for every list of records, copy writes each track's data, absent for a track without a record, whatever the
valid bits; or it gives the read's failure. The lines are those of `WRITE_ISO` (R86). In a list with two records of a
track the first counts, which is the model's reading (log 24). -/
def Obligations.CopyWritesTheReadTexts : Prop :=
  (∀ recs : List TrackRecord,
    copyTracks (.records recs) = .write
      [⟨0x1200#16, Safety.firstData .t1 recs, Safety.firstData .t2 recs, Safety.firstData .t3 recs⟩,
        ⟨0x0300#16, .bytes [0x1B#8, 0x77#8], .res, .absent⟩]) ∧
  ∀ st, copyTracks (.failed st) = .readFailed st

/-- R205, R206, R195, R199: the erase mask and the BPI data, and for every mask, track and density the report that carries
them. -/
def Obligations.EraseMaskAndBpiDataBytes : Prop :=
  (∀ e1 e2 e3 : Bool, (eraseMask e1 e2 e3).toNat = e1.toNat + 2 * e2.toNat + 4 * e3.toNat ∧
    frame ([0x1B#8, 0x63#8] ++ [eraseMask e1 e2 e3]) =
      [[0xC3#8, 0x1B#8, 0x63#8, eraseMask e1 e2 e3] ++ List.replicate 60 0x00#8]) ∧
  ∀ p ∈ [(Track.t1, 0x01#8), (.t2, 0x02#8), (.t3, 0x03#8)], ∀ q ∈ [(Density.bpi75, 0x00#8), (.bpi210, 0x01#8)],
    bpiData p.1 q.1 = [p.2, q.2] ∧
    frame ([0x1B#8, 0x62#8] ++ bpiData p.1 q.1) =
      [[0xC4#8, 0x1B#8, 0x62#8, p.2, q.2] ++ List.replicate 59 0x00#8]

/-- R230, R39, R21: the codes HOST reads. -/
def Obligations.StatusAndErrorCodes : Prop :=
  ([Status.ok, .communicationError, .deviceNotFound, .alreadyConnected, .notConnected, .noCardSwipe, .invalidFormat,
      .readWriteMismatch, .unknownStatus, .timeout, .emptyMessage, .rxOverflow, .illegalOperation].map statusCode =
    [0x00#8, 0x01#8, 0x02#8, 0x03#8, 0x04#8, 0x05#8, 0x06#8, 0x07#8, 0x08#8, 0x10#8, 0x11#8, 0x12#8, 0x13#8]) ∧
  ([TrackErr.none, .decode, .length, .charset].map trackErrCode = [0x00#8, 0x01#8, 0x02#8, 0x03#8]) ∧
  ([Mode.idle, .tx, .rx].map modeCode = [0x00#8, 0x01#8, 0x02#8])

/-- R35-R37: the sentinels of the TrackSpec table, and the character sets with their 64 and 17 members. -/
def Obligations.TrackSpecSentinelsAndCharsets : Prop :=
  ∀ p : Config.Params,
    ((trackSpec p .t1).start = 0x25#8 ∧ (trackSpec p .t2).start = 0x3B#8 ∧ (trackSpec p .t3).start = 0x3B#8) ∧
    (∀ t, (trackSpec p t).endSentinel = 0x3F#8) ∧
    (∀ b : Byte, inCharset p .t1 b = true ↔ 0x20 ≤ b.toNat ∧ b.toNat ≤ 0x5F) ∧
    (∀ b : Byte, inCharset p .t2 b = inCharset p .t3 b ∧
      (inCharset p .t2 b = true ↔ (0x30 ≤ b.toNat ∧ b.toNat ≤ 0x3F) ∨ b = 0x25#8)) ∧
    ((List.range 256).filter fun n => inCharset p .t1 (BitVec.ofNat 8 n)).length = 64 ∧
    ((List.range 256).filter fun n => inCharset p .t2 (BitVec.ofNat 8 n)).length = 17

/-- R85, R86, R263: the spec's erase program assembles to the write/erase sequence, and its recovery to R264's. -/
def Obligations.AssembledEraseProgramIsTheSequence : Prop :=
  assemble (ascii "FLUSH                    ; CW 0x0500\nDEV SET_HICO\nRECEIVE\nFLUSH\nERASE 05\nRECEIVE") =
    some (writeEraseSequence true [eraseLine 0x05#8]) ∧
  assemble (ascii "DEV RESET\nFLUSH") = some desyncRecovery

/-- R213, R210: the uniform result is read from the result register; a RECEIVE's response is RES_BYTES, or nothing when
RES_OK = 0. -/
def Obligations.UniformResultIsTheResultRegister : Prop :=
  ∀ res : ResultReg,
    uniformResult res = ⟨res.ok, res.status, res.bytes, res.recs⟩ ∧
    (res.ok = true → responseOf res = res.bytes) ∧ (res.ok = false → responseOf res = [])

/-- R210, R211, R111: the outcome of a read (ISO) from the results of its SEND and its RECEIVE. -/
def Obligations.ReadIsoOutcomeFollowsTheResults : Prop :=
  ∀ (p : Config.Params) (sent received : ResultReg),
    (sent.ok = false → readIsoOutcome p sent received = .failed sent.status) ∧
    (sent.ok = true → received.ok = true → 2 ≤ received.bytes.length →
      readIsoOutcome p sent received = .records (parseIso p received.bytes)) ∧
    (sent.ok = true → received.ok = true → received.bytes.length = 1 →
      readIsoOutcome p sent received = .failed .unknownStatus) ∧
    (sent.ok = true → received.ok = false ∨ received.bytes = [] →
      readIsoOutcome p sent received = .failed .noCardSwipe)

/-- R212, R211, R191: copy and compare present `DEV READ_ISO`, `RECEIVE` and `PARSE_ISO @RES` one by one, stop at the
first failure with the read's own, and go on from PARSE_ISO's records. That the SEND's failure is a failed read is the
model's reading (log 24). -/
def Obligations.CopyAndCompareReadFirst : Prop :=
  ∀ (p : Config.Params) (x : TrackTexts) (sent received parsed : ResultReg),
    (copyNext [] = .present ⟨0x0300#16, .bytes [0x1B#8, 0x72#8], .absent, .absent⟩ ∧
      compareNext p x [] = .present ⟨0x0300#16, .bytes [0x1B#8, 0x72#8], .absent, .absent⟩) ∧
    (sent.ok = false →
      copyNext [sent] = .readFailed sent.status ∧ compareNext p x [sent] = .done (.readFailed sent.status)) ∧
    (sent.ok = true →
      copyNext [sent] = .present ⟨0x0400#16, .absent, .absent, .absent⟩ ∧
      compareNext p x [sent] = .present ⟨0x0400#16, .absent, .absent, .absent⟩ ∧
      (∀ st, classify [0x1B#8, 0x72#8] (responseOf received) = .fail st →
        copyNext [sent, received] = .readFailed st ∧ compareNext p x [sent, received] = .done (.readFailed st)) ∧
      (classify [0x1B#8, 0x72#8] (responseOf received) = .success →
        copyNext [sent, received] = .present ⟨0x1400#16, .res, .absent, .absent⟩ ∧
        compareNext p x [sent, received] = .present ⟨0x1400#16, .res, .absent, .absent⟩ ∧
        copyNext [sent, received, parsed] = copyTracks (.records parsed.recs) ∧
        compareNext p x [sent, received, parsed] = .done (compareTracks p x (.records parsed.recs))))

/-- R161, R85, R210, R211, R212: when HOST presents `PARSE_ISO @RES` on the result of the read's RECEIVE and the block
accepts it, the result it then reads completes the read with `readIsoOutcome`. Agenda and port are the model's (log 3,
log 5). -/
def Obligations.ParsingTheResponseCompletesTheRead : Prop :=
  ∀ (s : State) (sent : ResultReg) (ans : EmitAnswer) (ms : List Move),
    s.agenda = .present parseIsoLine :: .block ans :: ms → s.mode = .idle → s.port = [] → s.res.valid = true →
    ∃ u t, step s = .next u ∧ step u = .next t ∧ t.mode = .idle ∧ t.res.valid = true ∧ t.res.op = 0x14#8 ∧
      readIsoNext [sent, s.res, t.res] = .finished (readIsoOutcome s.params sent s.res)

/-- R30, R81, R230: in every state of the invariant a valid result has an OP of R81's list, unless its status is
IllegalOperation, and then RES_OP is the reserved OP (R230's table against R30's list: log 30). -/
def Obligations.ResultOpIsACodeUnlessIllegal : Prop :=
  ∀ s : State, Safety.Inv s → s.res.valid = true →
    (s.res.status = .illegalOperation ↔ s.res.op ∉
      [0x01#8, 0x02#8, 0x03#8, 0x04#8, 0x05#8, 0x10#8, 0x11#8, 0x12#8, 0x13#8, 0x14#8, 0x15#8])
end

