-- ==== Sys2Proof/Laws/State.lean ====
section
/-! SUPPORT. One lemma per field of State per named update, true by rfl, so that no later proof unfolds a record
update. -/

namespace Sys2Proof.Machine

/-! ### finish -/

@[simp] theorem finish_mode (st : Status) (f : ResultFields) (s : State) :
    (finish st f s).mode = .idle := rfl

@[simp] theorem finish_lat (st : Status) (f : ResultFields) (s : State) :
    (finish st f s).lat = s.lat := rfl

@[simp] theorem finish_txPkts (st : Status) (f : ResultFields) (s : State) :
    (finish st f s).txPkts = s.txPkts := rfl

@[simp] theorem finish_txIdx (st : Status) (f : ResultFields) (s : State) :
    (finish st f s).txIdx = s.txIdx := rfl

@[simp] theorem finish_rxAcc (st : Status) (f : ResultFields) (s : State) :
    (finish st f s).rxAcc = s.rxAcc := rfl

@[simp] theorem finish_rxLast (st : Status) (f : ResultFields) (s : State) :
    (finish st f s).rxLast = s.rxLast := rfl

@[simp] theorem finish_inQ (st : Status) (f : ResultFields) (s : State) :
    (finish st f s).inQ = s.inQ := rfl

@[simp] theorem finish_res (st : Status) (f : ResultFields) (s : State) :
    (finish st f s).res = finished s.lat.opl st f := rfl

@[simp] theorem finish_params (st : Status) (f : ResultFields) (s : State) :
    (finish st f s).params = s.params := rfl

@[simp] theorem finish_port (st : Status) (f : ResultFields) (s : State) :
    (finish st f s).port = s.port := rfl

@[simp] theorem finish_agenda (st : Status) (f : ResultFields) (s : State) :
    (finish st f s).agenda = s.agenda := rfl

@[simp] theorem finish_tick (st : Status) (f : ResultFields) (s : State) :
    (finish st f s).tick = s.tick := rfl

@[simp] theorem finish_out (st : Status) (f : ResultFields) (s : State) :
    (finish st f s).out = s.out := rfl

@[simp] theorem finish_seen (st : Status) (f : ResultFields) (s : State) :
    (finish st f s).seen = s.seen := rfl

/-! ### latch -/

@[simp] theorem latch_mode (op arg : Byte) (ops : Operands) (s : State) :
    (latch op arg ops s).mode = s.mode := rfl

@[simp] theorem latch_lat (op arg : Byte) (ops : Operands) (s : State) :
    (latch op arg ops s).lat = captured op arg ops := rfl

@[simp] theorem latch_txPkts (op arg : Byte) (ops : Operands) (s : State) :
    (latch op arg ops s).txPkts = s.txPkts := rfl

@[simp] theorem latch_txIdx (op arg : Byte) (ops : Operands) (s : State) :
    (latch op arg ops s).txIdx = s.txIdx := rfl

@[simp] theorem latch_rxAcc (op arg : Byte) (ops : Operands) (s : State) :
    (latch op arg ops s).rxAcc = s.rxAcc := rfl

@[simp] theorem latch_rxLast (op arg : Byte) (ops : Operands) (s : State) :
    (latch op arg ops s).rxLast = s.rxLast := rfl

@[simp] theorem latch_inQ (op arg : Byte) (ops : Operands) (s : State) :
    (latch op arg ops s).inQ = s.inQ := rfl

@[simp] theorem latch_res (op arg : Byte) (ops : Operands) (s : State) :
    (latch op arg ops s).res = { s.res with valid := false } := rfl

@[simp] theorem latch_params (op arg : Byte) (ops : Operands) (s : State) :
    (latch op arg ops s).params = s.params := rfl

@[simp] theorem latch_port (op arg : Byte) (ops : Operands) (s : State) :
    (latch op arg ops s).port = s.port := rfl

@[simp] theorem latch_agenda (op arg : Byte) (ops : Operands) (s : State) :
    (latch op arg ops s).agenda = s.agenda := rfl

@[simp] theorem latch_tick (op arg : Byte) (ops : Operands) (s : State) :
    (latch op arg ops s).tick = s.tick := rfl

@[simp] theorem latch_out (op arg : Byte) (ops : Operands) (s : State) :
    (latch op arg ops s).out = s.out := rfl

@[simp] theorem latch_seen (op arg : Byte) (ops : Operands) (s : State) :
    (latch op arg ops s).seen = s.seen := rfl

/-! ### clearTx -/

@[simp] theorem clearTx_mode  (s : State) :
    (clearTx s).mode = s.mode := rfl

@[simp] theorem clearTx_lat  (s : State) :
    (clearTx s).lat = s.lat := rfl

@[simp] theorem clearTx_txPkts  (s : State) :
    (clearTx s).txPkts = [] := rfl

@[simp] theorem clearTx_txIdx  (s : State) :
    (clearTx s).txIdx = 0 := rfl

@[simp] theorem clearTx_rxAcc  (s : State) :
    (clearTx s).rxAcc = s.rxAcc := rfl

@[simp] theorem clearTx_rxLast  (s : State) :
    (clearTx s).rxLast = s.rxLast := rfl

@[simp] theorem clearTx_inQ  (s : State) :
    (clearTx s).inQ = s.inQ := rfl

@[simp] theorem clearTx_res  (s : State) :
    (clearTx s).res = s.res := rfl

@[simp] theorem clearTx_params  (s : State) :
    (clearTx s).params = s.params := rfl

@[simp] theorem clearTx_port  (s : State) :
    (clearTx s).port = s.port := rfl

@[simp] theorem clearTx_agenda  (s : State) :
    (clearTx s).agenda = s.agenda := rfl

@[simp] theorem clearTx_tick  (s : State) :
    (clearTx s).tick = s.tick := rfl

@[simp] theorem clearTx_out  (s : State) :
    (clearTx s).out = s.out := rfl

@[simp] theorem clearTx_seen  (s : State) :
    (clearTx s).seen = s.seen := rfl

/-! ### performReceive -/

@[simp] theorem performReceive_mode  (s : State) :
    (performReceive s).mode = .rx := rfl

@[simp] theorem performReceive_lat  (s : State) :
    (performReceive s).lat = s.lat := rfl

@[simp] theorem performReceive_txPkts  (s : State) :
    (performReceive s).txPkts = s.txPkts := rfl

@[simp] theorem performReceive_txIdx  (s : State) :
    (performReceive s).txIdx = s.txIdx := rfl

@[simp] theorem performReceive_rxAcc  (s : State) :
    (performReceive s).rxAcc = [] := rfl

@[simp] theorem performReceive_rxLast  (s : State) :
    (performReceive s).rxLast = false := rfl

@[simp] theorem performReceive_inQ  (s : State) :
    (performReceive s).inQ = s.inQ := rfl

@[simp] theorem performReceive_res  (s : State) :
    (performReceive s).res = s.res := rfl

@[simp] theorem performReceive_params  (s : State) :
    (performReceive s).params = s.params := rfl

@[simp] theorem performReceive_port  (s : State) :
    (performReceive s).port = s.port := rfl

@[simp] theorem performReceive_agenda  (s : State) :
    (performReceive s).agenda = s.agenda := rfl

@[simp] theorem performReceive_tick  (s : State) :
    (performReceive s).tick = s.tick := rfl

@[simp] theorem performReceive_out  (s : State) :
    (performReceive s).out = s.out := rfl

@[simp] theorem performReceive_seen  (s : State) :
    (performReceive s).seen = s.seen := rfl

/-! ### performFlush -/

@[simp] theorem performFlush_mode  (s : State) :
    (performFlush s).mode = .idle := rfl

@[simp] theorem performFlush_lat  (s : State) :
    (performFlush s).lat = s.lat := rfl

@[simp] theorem performFlush_txPkts  (s : State) :
    (performFlush s).txPkts = s.txPkts := rfl

@[simp] theorem performFlush_txIdx  (s : State) :
    (performFlush s).txIdx = s.txIdx := rfl

@[simp] theorem performFlush_rxAcc  (s : State) :
    (performFlush s).rxAcc = s.rxAcc := rfl

@[simp] theorem performFlush_rxLast  (s : State) :
    (performFlush s).rxLast = s.rxLast := rfl

@[simp] theorem performFlush_inQ  (s : State) :
    (performFlush s).inQ = [] := rfl

@[simp] theorem performFlush_res  (s : State) :
    (performFlush s).res = finished s.lat.opl .ok { count := s.inQ.length } := rfl

@[simp] theorem performFlush_params  (s : State) :
    (performFlush s).params = s.params := rfl

@[simp] theorem performFlush_port  (s : State) :
    (performFlush s).port = s.port := rfl

@[simp] theorem performFlush_agenda  (s : State) :
    (performFlush s).agenda = s.agenda := rfl

@[simp] theorem performFlush_tick  (s : State) :
    (performFlush s).tick = s.tick := rfl

@[simp] theorem performFlush_out  (s : State) :
    (performFlush s).out = s.out := rfl

@[simp] theorem performFlush_seen  (s : State) :
    (performFlush s).seen = s.seen := rfl

/-! ### linkOpen -/

@[simp] theorem linkOpen_mode (q : List Bytes) (s : State) :
    (linkOpen q s).mode = .idle := rfl

@[simp] theorem linkOpen_lat (q : List Bytes) (s : State) :
    (linkOpen q s).lat = Latches.reset := rfl

@[simp] theorem linkOpen_txPkts (q : List Bytes) (s : State) :
    (linkOpen q s).txPkts = [] := rfl

@[simp] theorem linkOpen_txIdx (q : List Bytes) (s : State) :
    (linkOpen q s).txIdx = 0 := rfl

@[simp] theorem linkOpen_rxAcc (q : List Bytes) (s : State) :
    (linkOpen q s).rxAcc = [] := rfl

@[simp] theorem linkOpen_rxLast (q : List Bytes) (s : State) :
    (linkOpen q s).rxLast = false := rfl

@[simp] theorem linkOpen_inQ (q : List Bytes) (s : State) :
    (linkOpen q s).inQ = q := rfl

@[simp] theorem linkOpen_res (q : List Bytes) (s : State) :
    (linkOpen q s).res = ResultReg.reset := rfl

@[simp] theorem linkOpen_params (q : List Bytes) (s : State) :
    (linkOpen q s).params = s.params := rfl

@[simp] theorem linkOpen_port (q : List Bytes) (s : State) :
    (linkOpen q s).port = s.port := rfl

@[simp] theorem linkOpen_agenda (q : List Bytes) (s : State) :
    (linkOpen q s).agenda = s.agenda := rfl

@[simp] theorem linkOpen_tick (q : List Bytes) (s : State) :
    (linkOpen q s).tick = s.tick := rfl

@[simp] theorem linkOpen_out (q : List Bytes) (s : State) :
    (linkOpen q s).out = s.out := rfl

@[simp] theorem linkOpen_seen (q : List Bytes) (s : State) :
    (linkOpen q s).seen = s.seen := rfl

/-! ### presentNext -/

@[simp] theorem presentNext_mode (c : Command) (s : State) :
    (presentNext c s).mode = s.mode := rfl

@[simp] theorem presentNext_lat (c : Command) (s : State) :
    (presentNext c s).lat = s.lat := rfl

@[simp] theorem presentNext_txPkts (c : Command) (s : State) :
    (presentNext c s).txPkts = s.txPkts := rfl

@[simp] theorem presentNext_txIdx (c : Command) (s : State) :
    (presentNext c s).txIdx = s.txIdx := rfl

@[simp] theorem presentNext_rxAcc (c : Command) (s : State) :
    (presentNext c s).rxAcc = s.rxAcc := rfl

@[simp] theorem presentNext_rxLast (c : Command) (s : State) :
    (presentNext c s).rxLast = s.rxLast := rfl

@[simp] theorem presentNext_inQ (c : Command) (s : State) :
    (presentNext c s).inQ = s.inQ := rfl

@[simp] theorem presentNext_res (c : Command) (s : State) :
    (presentNext c s).res = s.res := rfl

@[simp] theorem presentNext_params (c : Command) (s : State) :
    (presentNext c s).params = s.params := rfl

@[simp] theorem presentNext_port (c : Command) (s : State) :
    (presentNext c s).port = c :: s.port := rfl

@[simp] theorem presentNext_agenda (c : Command) (s : State) :
    (presentNext c s).agenda = .block .ok :: s.agenda := rfl

@[simp] theorem presentNext_tick (c : Command) (s : State) :
    (presentNext c s).tick = s.tick := rfl

@[simp] theorem presentNext_out (c : Command) (s : State) :
    (presentNext c s).out = s.out := rfl

@[simp] theorem presentNext_seen (c : Command) (s : State) :
    (presentNext c s).seen = s.seen := rfl

/-! ### emitted: only OUT can change -/

@[simp] theorem emitted_fail (r : Bytes) (s : State) : emitted .fail r s = s := rfl

@[simp] theorem emitted_ok (r : Bytes) (s : State) : emitted .ok r s = { s with out := s.out ++ [r] } := rfl

/-! ### The result register after `finish`, and the latches after acceptance -/

@[simp] theorem finished_valid (op : Byte) (st : Status) (f : ResultFields) :
    (finished op st f).valid = true := rfl

@[simp] theorem finished_op (op : Byte) (st : Status) (f : ResultFields) :
    (finished op st f).op = op := rfl

@[simp] theorem finished_status (op : Byte) (st : Status) (f : ResultFields) :
    (finished op st f).status = st := rfl

@[simp] theorem finished_ok (op : Byte) (st : Status) (f : ResultFields) :
    (finished op st f).ok = statusIsOk st := rfl

@[simp] theorem finished_flag (op : Byte) (st : Status) (f : ResultFields) :
    (finished op st f).flag = f.flag := rfl

@[simp] theorem finished_err (op : Byte) (st : Status) (f : ResultFields) :
    (finished op st f).err = f.err := rfl

@[simp] theorem finished_count (op : Byte) (st : Status) (f : ResultFields) :
    (finished op st f).count = f.count := rfl

@[simp] theorem finished_bytes (op : Byte) (st : Status) (f : ResultFields) :
    (finished op st f).bytes = f.bytes := rfl

@[simp] theorem finished_pkts (op : Byte) (st : Status) (f : ResultFields) :
    (finished op st f).pkts = f.pkts := rfl

@[simp] theorem finished_recs (op : Byte) (st : Status) (f : ResultFields) :
    (finished op st f).recs = f.recs := rfl

@[simp] theorem captured_opl (op arg : Byte) (ops : Operands) :
    (captured op arg ops).opl = op := rfl

@[simp] theorem captured_argl (op arg : Byte) (ops : Operands) :
    (captured op arg ops).argl = arg := rfl

@[simp] theorem captured_pa (op arg : Byte) (ops : Operands) :
    (captured op arg ops).pa = ops.a.isSome := rfl

@[simp] theorem captured_pb (op arg : Byte) (ops : Operands) :
    (captured op arg ops).pb = ops.b.isSome := rfl

@[simp] theorem captured_pc (op arg : Byte) (ops : Operands) :
    (captured op arg ops).pc = ops.c.isSome := rfl

@[simp] theorem operandBytes_eq_getD (o : Operand) : operandBytes o = o.getD [] := by cases o <;> rfl

/-- The latches an acceptance writes are those of R102. -/
theorem captured_eq_latched (op arg : Byte) (ops : Operands) : captured op arg ops = Safety.latched op arg ops := by
  simp [captured, Safety.latched, operandPresent]

@[simp] theorem captured_a (op arg : Byte) (ops : Operands) :
    (captured op arg ops).a = ops.a.getD [] := by simp [captured]

@[simp] theorem captured_b (op arg : Byte) (ops : Operands) :
    (captured op arg ops).b = ops.b.getD [] := by simp [captured]

@[simp] theorem captured_c (op arg : Byte) (ops : Operands) :
    (captured op arg ops).c = ops.c.getD [] := by simp [captured]

end Sys2Proof.Machine
end

