-- ==== Sys2Proof/Laws/Ops.lean ====
section
/-! SUPPORT. What each shared operation can do, said once; proofs cite these instead of unfolding the operation. -/

namespace Sys2Proof.Machine

/-! ### Bounds and codes -/

/-- A size that an optional bound does not exceed is within it. -/
theorem exceeds_eq_false_iff (cap : Option Nat) (n : Nat) : exceeds cap n = false ↔ Safety.within cap n := by
  cases cap <;> simp [exceeds, Safety.within]

/-- A size exceeds an optional bound iff some bound is present and smaller. -/
theorem exceeds_eq_true_iff (cap : Option Nat) (n : Nat) : exceeds cap n = true ↔ ∃ k, cap = some k ∧ k < n := by
  cases cap <;> simp [exceeds]

@[simp] theorem exceeds_none (n : Nat) : exceeds none n = false := rfl

/-- The number of an operation code gives the operation code back. -/
@[simp] theorem opCode_ofByte_code (o : OpCode) : OpCode.ofByte o.code = some o := by cases o <;> rfl

/-- An operation code is the number of the operation it stands for. -/
theorem opCode_code_of_ofByte {b : Byte} {o : OpCode} (h : OpCode.ofByte b = some o) : b = o.code := by
  revert h b
  cases o <;> decide

@[simp] theorem track_ofByte_byte (t : Track) : Track.ofByte t.byte = some t := by cases t <;> rfl

/-! ### Byte strings -/

/-- A read that stays inside the buffer has the length asked for. -/
theorem memRead_length (buf : Bytes) (a n : Nat) (h : a + n ≤ buf.length) : (memRead buf a n).length = n := by
  simp [memRead]; omega

@[simp] theorem memRead_zero (buf : Bytes) (n : Nat) : memRead buf 0 n = buf.take n := by simp [memRead]

/-- A read after a write to the same place gives what was written (R11). -/
theorem memRead_memWrite_same (buf : Bytes) (a n : Nat) (v : Bytes) (h : a ≤ buf.length) :
    memRead (memWrite buf a n v) a v.length = v := by
  have hl : (buf.take a).length = a := by simp [h]
  simp [memRead, memWrite, List.append_assoc, hl]

/-- A write leaves the bytes below it alone (R11). -/
theorem memRead_memWrite_below (buf : Bytes) (a n i k : Nat) (v : Bytes) (h : i + k ≤ a) (ha : a ≤ buf.length) :
    memRead (memWrite buf a n v) i k = memRead buf i k := by
  have h1 : i - a = 0 := by omega
  have h2 : k ≤ a - i := by omega
  simp [memRead, memWrite, List.drop_append, List.take_append, List.drop_take, List.take_take, h1,
    Nat.min_eq_left h2, List.append_assoc, Nat.min_eq_left ha]
  omega

@[simp] theorem zeros_length (n : Nat) : (zeros n).length = n := by simp [zeros]

/-- `find` answers an index at which the pattern stands. -/
theorem findIn_isPrefix {p s : Bytes} {i : Nat} (h : findIn p s = some i) : p <+: s.drop i := by
  induction s generalizing i with
  | nil =>
    by_cases hp : p = []
    · simp [findIn, hp] at h; subst h; simp [hp]
    · simp [findIn, hp] at h
  | cons b s ih =>
    rw [findIn] at h
    split at h
    · cases h; simpa using List.isPrefixOf_iff_prefix.mp ‹_›
    · obtain ⟨j, hj, rfl⟩ := Option.map_eq_some_iff.mp h
      simpa using ih hj

/-- No smaller index than the one `find` answers has the pattern. -/
theorem findIn_least {p s : Bytes} {i j : Nat} (h : findIn p s = some i) (hj : p <+: s.drop j) : i ≤ j := by
  induction s generalizing i j with
  | nil =>
    by_cases hp : p = []
    · simp [findIn, hp] at h; omega
    · simp [findIn, hp] at h
  | cons b s ih =>
    rw [findIn] at h
    split at h
    · cases h; omega
    · rename_i hn
      obtain ⟨k, hk, rfl⟩ := Option.map_eq_some_iff.mp h
      cases j with
      | zero => exact absurd (List.isPrefixOf_iff_prefix.mpr (by simpa using hj)) hn
      | succ j => exact Nat.succ_le_succ (ih hk (by simpa using hj))

/-- `find` answers nothing only when the pattern stands nowhere. -/
theorem findIn_none {p s : Bytes} (hp : p ≠ []) (h : findIn p s = none) (j : Nat) : ¬ p <+: s.drop j := by
  induction s generalizing j with
  | nil => simpa using hp
  | cons b s ih =>
    rw [findIn] at h
    split at h
    · cases h
    · rename_i hn
      cases j with
      | zero => exact fun hj => hn (List.isPrefixOf_iff_prefix.mpr (by simpa using hj))
      | succ j => simpa using ih (by simpa using h) j

/-- What `find` from a start answers: the least index from the start at which the pattern stands (R10). -/
theorem find_eq_some_iff {s p : Bytes} {a i : Nat} :
    find s p a = some i ↔ a ≤ i ∧ p <+: s.drop i ∧ ∀ j, a ≤ j → p <+: s.drop j → i ≤ j := by
  constructor
  · intro h
    obtain ⟨k, hk, rfl⟩ := Option.map_eq_some_iff.mp h
    refine ⟨by omega, ?_, ?_⟩
    · have := findIn_isPrefix hk
      rwa [List.drop_drop, Nat.add_comm] at this
    · intro j haj hj
      have : k ≤ j - a := findIn_least hk (by rwa [List.drop_drop, Nat.add_sub_cancel' haj])
      omega
  · rintro ⟨hai, hp, hmin⟩
    cases hf : findIn p (s.drop a) with
    | none =>
      by_cases hp0 : p = []
      · subst hp0
        cases hs : s.drop a <;> simp [hs, findIn] at hf
      · exact absurd (by rwa [List.drop_drop, Nat.add_sub_cancel' hai]) (findIn_none hp0 hf (i - a))
    | some k =>
      have h1 := findIn_isPrefix hf
      rw [List.drop_drop] at h1
      have h2 := hmin (a + k) (by omega) h1
      have h3 : k ≤ i - a := findIn_least hf (by rwa [List.drop_drop, Nat.add_sub_cancel' hai])
      simp [find, hf]; omega

/-- What it means that `find` from a start answers nothing (R10). -/
theorem find_eq_none_iff {s p : Bytes} {a : Nat} (hp : p ≠ []) :
    find s p a = none ↔ ∀ j, a ≤ j → ¬ p <+: s.drop j := by
  constructor
  · intro h j haj hj
    have hn : findIn p (s.drop a) = none := by simpa [find] using h
    exact findIn_none hp hn (j - a) (by rwa [List.drop_drop, Nat.add_sub_cancel' haj])
  · intro h
    cases hf : find s p a with
    | none => rfl
    | some i => exact absurd (find_eq_some_iff.mp hf).2.1 (h i (find_eq_some_iff.mp hf).1)

/-! ### Acceptance -/

/-- A legal command in IDLE is performed on the latched state (R102). -/
theorem accept_legal {o : OpCode} {arg : Byte} {ops : Operands} {f : State → State} {s : State}
    (hm : s.mode = .idle) (ha : o.argLegal arg = true) :
    accept o arg ops f s = .next (f (latch o.code arg ops s)) := by
  simp [accept, hm, ha]

/-- A command while MODE is not IDLE is held (R101). -/
theorem accept_busy {o : OpCode} {arg : Byte} {ops : Operands} {f : State → State} {s : State}
    (hm : s.mode ≠ .idle) : accept o arg ops f s = .next s := by
  simp [accept, hm]

/-- Everything an acceptance can do: hold, refuse the ARG, or perform the operation. -/
theorem accept_cases {o : OpCode} {arg : Byte} {ops : Operands} {f : State → State} {s t : State}
    (h : accept o arg ops f s = .next t) :
    (s.mode ≠ .idle ∧ t = s) ∨
    (s.mode = .idle ∧ o.argLegal arg = false ∧ t = finish .invalidFormat {} (latch o.code arg ops s)) ∨
    (s.mode = .idle ∧ o.argLegal arg = true ∧ t = f (latch o.code arg ops s)) := by
  unfold accept at h
  split at h
  · split at h <;> cases h <;> simp_all
  · cases h; simp_all

/-- Everything the acceptance of a word that is no instruction can do. -/
theorem acceptRejected_cases {op arg : Byte} {ops : Operands} {st : Status} {s t : State}
    (h : acceptRejected op arg ops st s = .next t) :
    (s.mode ≠ .idle ∧ t = s) ∨ (s.mode = .idle ∧ t = finish st {} (latch op arg ops s)) := by
  unfold acceptRejected at h
  split at h <;> cases h <;> simp_all

/-! ### The ports -/

/-- `pop` takes the head of IN_Q and changes nothing else. -/
theorem pop_eq_some_iff {s s' : State} {r : Bytes} :
    pop s = some (r, s') ↔ ∃ q, s.inQ = r :: q ∧ s' = { s with inQ := q } := by
  unfold pop
  split
  · simp_all
  · rename_i r' q hq
    simp only [hq, Option.some.injEq, Prod.mk.injEq, List.cons.injEq]
    constructor
    · rintro ⟨rfl, rfl⟩; exact ⟨q, ⟨rfl, rfl⟩, rfl⟩
    · rintro ⟨q', ⟨rfl, rfl⟩, rfl⟩; exact ⟨rfl, rfl⟩

/-- Everything a transmit step can do (R111). -/
theorem txStep_cases {ans : EmitAnswer} {s t : State} (h : txStep ans s = .next t) :
    ∃ r, s.txPkts[s.txIdx]? = some r ∧
      ((ans = .fail ∧ t = finish .communicationError { count := s.txIdx } (clearTx s)) ∨
       (ans = .ok ∧ s.txIdx + 1 = s.txPkts.length ∧
          t = finish .ok { count := s.txPkts.length } (clearTx { s with out := s.out ++ [r] })) ∨
       (ans = .ok ∧ s.txIdx + 1 ≠ s.txPkts.length ∧
          t = { s with out := s.out ++ [r], txIdx := s.txIdx + 1 })) := by
  unfold txStep at h
  split at h
  · cases h
  · rename_i r hr
    refine ⟨r, hr, ?_⟩
    cases ans with
    | fail => cases h; simp
    | ok =>
      simp only at h
      split at h <;> cases h <;> simp_all

/-- Everything `complete_rx` can do (R117). -/
theorem completeRx_cases (acc : Bytes) (last : Bool) (s : State) :
    (1 ≤ acc.length ∧ completeRx acc last s = finish .ok { bytes := acc, flag := last } s) ∨
    (acc = [] ∧ last = true ∧ completeRx acc last s = finish .emptyMessage { flag := true } s) ∨
    (acc = [] ∧ last = false ∧ completeRx acc last s = finish .timeout {} s) := by
  unfold completeRx
  cases acc <;> cases last <;> simp

/-- Everything a report step can do with the popped report (R116). -/
theorem rxReport_cases (r : Bytes) (s : State) :
    (¬ Safety.within s.params.rxCap (s.rxAcc.length + (unframe r).1.length) ∧
      rxReport r s = finish .rxOverflow {} { s with rxAcc := [] }) ∨
    (Safety.within s.params.rxCap (s.rxAcc.length + (unframe r).1.length) ∧ (unframe r).2.1 = true ∧
      rxReport r s = completeRx (s.rxAcc ++ (unframe r).1) true
        { s with rxAcc := s.rxAcc ++ (unframe r).1, rxLast := true }) ∨
    (Safety.within s.params.rxCap (s.rxAcc.length + (unframe r).1.length) ∧ (unframe r).2.1 = false ∧
      rxReport r s = { s with rxAcc := s.rxAcc ++ (unframe r).1 }) := by
  unfold rxReport
  cases he : exceeds s.params.rxCap (s.rxAcc.length + (unframe r).1.length)
  · have hw := (exceeds_eq_false_iff _ _).mp he
    cases hl : (unframe r).2.1 <;> simp [hw]
  · have hw : ¬ Safety.within s.params.rxCap (s.rxAcc.length + (unframe r).1.length) := fun h => by
      rw [(exceeds_eq_false_iff _ _).mpr h] at he; cases he
    simp [hw]

/-- Everything RECEIVE's step can do: wait, or take the head of IN_Q (R116). -/
theorem rxStep_cases {s t : State} (h : rxStep s = .next t) :
    (s.inQ = [] ∧ t = s) ∨ ∃ r q, s.inQ = r :: q ∧ t = rxReport r { s with inQ := q } := by
  unfold rxStep at h
  split at h
  · rename_i hp
    unfold pop at hp
    split at hp <;> cases h <;> simp_all
  · rename_i r s' hp
    obtain ⟨q, hq, rfl⟩ := pop_eq_some_iff.mp hp
    cases h
    exact .inr ⟨r, q, hq, rfl⟩

/-- Everything DEADLINE can do (R118). -/
theorem deadline_cases (s : State) :
    (s.mode ≠ .rx ∧ deadline s = s) ∨ (s.mode = .rx ∧ deadline s = completeRx s.rxAcc false s) := by
  unfold deadline
  by_cases h : s.mode = .rx <;> simp [h]

/-! ### HOST and ENV -/

/-- Everything HOST's read can do (R31, R56). -/
theorem hostRead_cases {sel : ReadSel} {s : State} :
    ((alwaysReadable sel = true ∨ s.res.valid = true) ∧ hostRead sel s = .next { s with seen := some (readValue sel s) }) ∨
    (alwaysReadable sel = false ∧ s.res.valid = false ∧ hostRead sel s = .fault (.resultNotValid sel)) := by
  unfold hostRead
  cases alwaysReadable sel <;> cases s.res.valid <;> simp

/-- Everything HOST's presenting can do (R101). -/
theorem hostPresent_cases {line : HostCommand} {s : State} :
    (∃ c, resolveCommand s.res line = some c ∧ hostPresent line s = .next { s with port := s.port ++ [c] }) ∨
    (resolveCommand s.res line = none ∧ hostPresent line s = .fault (.resultNotValid .bytes)) := by
  unfold hostPresent
  cases resolveCommand s.res line <;> simp

/-- A line resolves but for an `@RES` while RES_VALID = 0 (R85, R31). -/
theorem resolveCommand_eq_none_iff (res : ResultReg) (h : HostCommand) :
    resolveCommand res h = none ↔ res.valid = false ∧ (h.a = .res ∨ h.b = .res ∨ h.c = .res) := by
  rcases h with ⟨cw, a, b, c⟩
  cases hv : res.valid <;> cases a <;> cases b <;> cases c <;> simp [resolveCommand, resolveOperand, hv]

/-- Everything ENV's append can do (R120). -/
theorem envAppend_cases (r : Bytes) (s : State) :
    (Safety.within s.params.inqCap (s.inQ.length + 1) ∧ envAppend r s = { s with inQ := s.inQ ++ [r] }) ∨
    (¬ Safety.within s.params.inqCap (s.inQ.length + 1) ∧ envAppend r s = s) := by
  unfold envAppend
  cases he : exceeds s.params.inqCap (s.inQ.length + 1)
  · exact .inl ⟨(exceeds_eq_false_iff _ _).mp he, by simp⟩
  · refine .inr ⟨fun h => ?_, by simp⟩
    rw [(exceeds_eq_false_iff _ _).mpr h] at he; cases he

/-- The next move is the agenda's head, or a free move when the agenda is empty (log 3). -/
theorem nextMove_cases (s : State) :
    (∃ m ms, s.agenda = m :: ms ∧ nextMove s = (m, { s with agenda := ms })) ∨
    (s.agenda = [] ∧ nextMove s = (Config.freeMove s.tick, { s with tick := s.tick + 1 })) := by
  unfold nextMove
  cases s.agenda <;> simp

/-- A step with a move on the agenda. -/
theorem step_of_agenda {s : State} {m : Move} {ms : List Move} (h : s.agenda = m :: ms) :
    step s = agentStep m { s with agenda := ms } := by
  simp [step, nextMove, h]

end Sys2Proof.Machine
end

