-- ==== Sys2Proof/Laws/Exec.lean ====
section
/-! SUPPORT. Every instruction is one acceptance of its operation: 33 arms in terms of 11 operations. -/

namespace Sys2Proof.Machine

/-- The operation rule that an operation code names (30_encoding.md R81). -/
def performOf (o : OpCode) : State → State :=
  match o with
  | .frame => performFrame
  | .unframe => performUnframe
  | .send => performSend
  | .receive => performReceive
  | .flush => performFlush
  | .normalize => performNormalize
  | .validate => performValidate
  | .buildIso => performBuildIso
  | .buildRaw => performBuildRaw
  | .parseIso => performParseIso
  | .parseRaw => performParseRaw

/-- The operation that carries an instruction: its own, or SEND for a device command (42_command_catalog.md R180). -/
def opCodeOf (i : Instr) : OpCode :=
  match i with
  | .frame _ => .frame
  | .unframe _ => .unframe
  | .send _ => .send
  | .receive _ => .receive
  | .flush _ => .flush
  | .normalize _ _ => .normalize
  | .validate _ _ => .validate
  | .buildIso _ => .buildIso
  | .buildRaw _ => .buildRaw
  | .parseIso _ => .parseIso
  | .parseRaw _ => .parseRaw
  | .devReset _ _ | .testComm _ _ | .testRam _ _ | .testSensor _ _ | .getFirmware _ _ | .ledAllOff _ _
  | .ledAllOn _ _ | .ledGreen _ _ | .ledYellow _ _ | .ledRed _ _ | .readIso _ _ | .readRaw _ _ | .writeIso _ _
  | .writeRaw _ _ | .erase _ _ | .setHico _ _ | .setLoco _ _ | .getCoercivity _ _ | .setBpi _ _ | .setBpc _ _
  | .setLeadingZero _ _ | .getLeadingZero _ _ => .send

/-- OP and ARG of a word put together from them. -/
@[simp] theorem mkCommand_op (o : OpCode) (arg : Byte) (ops : Operands) : (mkCommand o arg ops).op = o.code := by
  exact BitVec.extractLsb'_append_eq_left

@[simp] theorem mkCommand_arg (o : OpCode) (arg : Byte) (ops : Operands) : (mkCommand o arg ops).arg = arg := by
  exact BitVec.extractLsb'_append_eq_right

@[simp] theorem mkCommand_ops (o : OpCode) (arg : Byte) (ops : Operands) : (mkCommand o arg ops).ops = ops := rfl

/-- The OP of an instruction's command is the code of the operation that carries it. -/
theorem encode_op (i : Instr) : (encode i).op = (opCodeOf i).code := by
  cases i <;> exact mkCommand_op _ _ _

/-- Running an instruction is accepting its command for the operation that carries it. -/
theorem exec_eq_accept (i : Instr) (s : State) :
    exec i s = accept (opCodeOf i) (encode i).arg (encode i).ops (performOf (opCodeOf i)) s := by
  cases i <;> simp only [encode, devCommand, mkCommand_arg, mkCommand_ops] <;> rfl

/-- Everything an instruction can do: hold, refuse its ARG, or perform its operation (40_packetizer.md R101, R102). -/
theorem exec_cases {i : Instr} {s t : State} (h : exec i s = .next t) :
    (s.mode ≠ .idle ∧ t = s) ∨
    (s.mode = .idle ∧ (opCodeOf i).argLegal (encode i).arg = false ∧
      t = finish .invalidFormat {} (latch (opCodeOf i).code (encode i).arg (encode i).ops s)) ∨
    (s.mode = .idle ∧ (opCodeOf i).argLegal (encode i).arg = true ∧
      t = performOf (opCodeOf i) (latch (opCodeOf i).code (encode i).arg (encode i).ops s)) := by
  rw [exec_eq_accept] at h
  exact accept_cases h

end Sys2Proof.Machine
end

