-- ==== Sys2Proof/Laws/Codec.lean ====
section
/-! SUPPORT. What the codec's functions do, said once: the stripping of a trailing run, where a slice ends, the record of
a slice, the records of a response (41_track_codec.md R142, R160-R165). -/

namespace Sys2Proof.Machine

/-- A text is what is left of it and the run stripped from its end, and what is left does not end in the stripped byte. -/
theorem stripTrailing_spec (e : Byte) (s : Bytes) :
    (∃ j, s = stripTrailing e s ++ List.replicate j e) ∧ (stripTrailing e s).getLast? ≠ some e := by
  unfold stripTrailing
  constructor
  · refine ⟨(s.reverse.takeWhile (· == e)).length, ?_⟩
    have run : s.reverse.takeWhile (· == e) = List.replicate (s.reverse.takeWhile (· == e)).length e := by
      refine List.eq_replicate_iff.mpr ⟨rfl, fun b hb => ?_⟩
      simpa using List.mem_takeWhile_imp hb
    have h := congrArg List.reverse (List.takeWhile_append_dropWhile (p := (· == e)) (l := s.reverse))
    rw [List.reverse_append, List.reverse_reverse, run, List.reverse_replicate] at h
    simpa using h.symm
  · rw [List.getLast?_reverse]
    have := List.head?_dropWhile_not (· == e) s.reverse
    intro h
    rw [h] at this
    simp at this

/-- The least of a list's numbers and a bound. -/
theorem foldl_min_spec (l : List Nat) (n : Nat) :
    l.foldl min n ≤ n ∧ (∀ x ∈ l, l.foldl min n ≤ x) ∧ (l.foldl min n = n ∨ l.foldl min n ∈ l) := by
  induction l generalizing n with
  | nil => simp
  | cons a l ih =>
    obtain ⟨h1, h2, h3⟩ := ih (min n a)
    simp only [List.foldl_cons, List.mem_cons] at *
    refine ⟨by omega, ?_, ?_⟩
    · rintro x (rfl | hx)
      · omega
      · exact h2 x hx
    · rcases h3 with h3 | h3
      · rcases Nat.le_total n a with h | h
        · left; omega
        · right; left; omega
      · exact .inr (.inr h3)

/-- Where a slice ends: at the least position of a terminator, or at the end of the response (R160). -/
theorem sliceEnd_spec (resp : Bytes) (a : Nat) (ha : a ≤ resp.length) :
    a ≤ sliceEnd resp a ∧ sliceEnd resp a ≤ resp.length ∧
    (∀ j, a ≤ j → j < sliceEnd resp a → ∀ p ∈ terms, ¬ p <+: resp.drop j) ∧
    (sliceEnd resp a = resp.length ∨ ∃ p ∈ terms, p <+: resp.drop (sliceEnd resp a)) := by
  obtain ⟨h1, h2, h3⟩ := foldl_min_spec (terms.filterMap fun p => find resp p a) resp.length
  change sliceEnd resp a ≤ _ at h1
  change ∀ x ∈ _, sliceEnd resp a ≤ x at h2
  change sliceEnd resp a = _ ∨ sliceEnd resp a ∈ _ at h3
  simp only [List.mem_filterMap] at h2 h3
  refine ⟨?_, h1, ?_, ?_⟩
  · rcases h3 with h3 | ⟨p, _, hp⟩
    · omega
    · exact (find_eq_some_iff.mp hp).1
  · intro j hj hlt p hp hpre
    cases hf : find resp p a with
    | none =>
      refine (find_eq_none_iff ?_).mp hf j hj hpre
      rintro rfl; revert hp; decide
    | some i =>
      have := h2 i ⟨p, hp, hf⟩
      have := (find_eq_some_iff.mp hf).2.2 j hj hpre
      omega
  · rcases h3 with h3 | ⟨p, hm, hp⟩
    · exact .inl h3
    · exact .inr ⟨p, hm, (find_eq_some_iff.mp hp).2.1⟩

/-- A two-byte pattern at a position is its two bytes there. -/
theorem pair_prefix_drop {a b : Byte} {l : Bytes} {j : Nat} (h : [a, b] <+: l.drop j) :
    l[j]? = some a ∧ l[j + 1]? = some b := by
  obtain ⟨s, hs⟩ := h
  have h1 : (l.drop j)[0]? = some a := by rw [← hs]; rfl
  have h2 : (l.drop j)[1]? = some b := by rw [← hs]; rfl
  simp only [List.getElem?_drop, Nat.add_zero] at h1 h2
  exact ⟨h1, h2⟩

@[simp] theorem isoRecord_track (p : Config.Params) (t : Track) (sl : Bytes) : (isoRecord p t sl).track = t := by
  unfold isoRecord; split <;> rfl

/-- An ISO record is valid iff it has no error (R38). -/
theorem isoRecord_valid_iff (p : Config.Params) (t : Track) (sl : Bytes) :
    (isoRecord p t sl).valid = true ↔ (isoRecord p t sl).err = .none := by
  unfold isoRecord; split <;> simp

/-- The records of a response: one for each track that has one, in track order. -/
theorem filterMap_tracks_spec {g : Track → Option TrackRecord} (hg : ∀ t r, g t = some r → r.track = t) :
    (([Track.t1, .t2, .t3].filterMap g).map TrackRecord.track).Sublist [.t1, .t2, .t3] ∧
    ∀ t r, (r ∈ [Track.t1, .t2, .t3].filterMap g ∧ r.track = t) ↔ g t = some r := by
  constructor
  · have sub : ∀ l : List Track, ((l.filterMap g).map TrackRecord.track).Sublist l := by
      intro l
      induction l with
      | nil => simp
      | cons a l ih =>
        cases h : g a with
        | none => simpa [List.filterMap_cons, h] using ih.cons a
        | some r => simpa [List.filterMap_cons, h, hg a r h] using ih
    exact sub _
  · intro t r
    constructor
    · rintro ⟨h, rfl⟩
      obtain ⟨u, _, hu⟩ := List.mem_filterMap.mp h
      rw [hg u r hu]; exact hu
    · intro h
      exact ⟨List.mem_filterMap.mpr ⟨t, by cases t <;> simp, h⟩, hg t r h⟩

end Sys2Proof.Machine
end

