-- ==== Sys2Proof/Laws/Decode.lean ====
section
/-! SUPPORT. Small lemmas of the decoder and the encoder: the finite facts about OP, ARG and selector bytes. -/

namespace Sys2Proof

/-- A selector of the catalog gives its device command back. -/
@[simp] theorem devCmd_ofSelector_selector (d : DevCmd) : DevCmd.ofSelector d.selector = some d := by
  cases d <;> rfl

/-- A selector that the catalog lists is the selector of the command found. -/
theorem devCmd_selector_of_ofSelector {sel : Byte} {d : DevCmd} (h : DevCmd.ofSelector sel = some d) :
    sel = d.selector := by
  revert sel d
  decide

/-- The instruction of a device command encodes to its SEND. -/
@[simp] theorem encode_devCmd_instr (d : DevCmd) (data spare : Operand) :
    encode (d.instr data spare) = devCommand d data spare := by
  cases d <;> rfl

/-- A device command is canonical. -/
@[simp] theorem canonical_devCmd_instr (d : DevCmd) (data spare : Operand) : (d.instr data spare).canonical = true := by
  cases d <;> rfl

/-- A command word is its OP and its ARG (30_encoding.md R80). -/
theorem mkWord_op_arg (c : Command) : mkWord c.op c.arg = c.cw := by
  have h := @BitVec.extractLsb'_append_extractLsb'_eq_extractLsb' 16 8 0 8 8 c.cw rfl
  exact h.trans (by simp)

/-- A command with a known OP is the command made from its parts. -/
theorem mkCommand_of_ofByte {c : Command} {o : OpCode} (h : OpCode.ofByte c.op = some o) :
    mkCommand o c.arg c.ops = c := by
  rw [mkCommand, ← Machine.opCode_code_of_ofByte h, mkWord_op_arg]

/-- A reserved OP is one outside R81's list. -/
theorem opCode_ofByte_eq_none_iff (b : Byte) : OpCode.ofByte b = none ↔
    b ∉ [0x01#8, 0x02#8, 0x03#8, 0x04#8, 0x05#8, 0x10#8, 0x11#8, 0x12#8, 0x13#8, 0x14#8, 0x15#8] := by
  revert b
  decide

/-- A byte that is no track number is one outside R82's list. -/
theorem track_ofByte_eq_none_iff (b : Byte) : Track.ofByte b = none ↔ b ∉ [0x01#8, 0x02#8, 0x03#8] := by
  revert b
  decide

/-- A byte that is a track number is that track's number. -/
theorem track_byte_of_ofByte {b : Byte} {t : Track} (h : Track.ofByte b = some t) : b = t.byte := by
  revert b t
  decide

end Sys2Proof
end

