-- ==== Sys2Proof/Laws/Orchestrator.lean ====
section
/-! SUPPORT. What HOST's read can do next, said once (42_command_catalog.md R211, R212). -/

namespace Sys2Proof.Machine

@[simp] theorem responseOf_ok {res : ResultReg} (h : res.ok = true) : responseOf res = res.bytes := by
  simp [responseOf, h]

@[simp] theorem responseOf_failed {res : ResultReg} (h : res.ok = false) : responseOf res = [] := by
  simp [responseOf, h]

@[simp] theorem readIsoNext_nil : readIsoNext [] = .present readIsoLine := rfl

/-- A SEND that failed ends the read with its status, whatever follows. -/
theorem readIsoNext_sendFailed {sent : ResultReg} (rest : List ResultReg) (h : sent.ok = false) :
    readIsoNext (sent :: rest) = .finished (.failed sent.status) := by
  simp [readIsoNext, h]

/-- A SEND that finished OK is followed by RECEIVE. -/
theorem readIsoNext_sent {sent : ResultReg} (h : sent.ok = true) : readIsoNext [sent] = .present receiveLine := by
  simp [readIsoNext, h]

/-- A response that classify rejects ends the read with classify's failure, whatever follows. -/
theorem readIsoNext_rejected {sent received : ResultReg} (rest : List ResultReg) {st : Status} (h : sent.ok = true)
    (hc : classify [0x1B#8, 0x72#8] (responseOf received) = .fail st) :
    readIsoNext (sent :: received :: rest) = .finished (.failed st) := by
  simp [readIsoNext, h, DevCmd.selector, hc]

/-- A response that classify accepts is parsed. -/
theorem readIsoNext_received {sent received : ResultReg} (h : sent.ok = true)
    (hc : classify [0x1B#8, 0x72#8] (responseOf received) = .success) :
    readIsoNext [sent, received] = .present parseIsoLine := by
  simp [readIsoNext, h, DevCmd.selector, hc]

/-- PARSE_ISO's records end the read. -/
theorem readIsoNext_parsed {sent received : ResultReg} (parsed : ResultReg) (h : sent.ok = true)
    (hc : classify [0x1B#8, 0x72#8] (responseOf received) = .success) :
    readIsoNext [sent, received, parsed] = .finished (.records parsed.recs) := by
  simp [readIsoNext, h, DevCmd.selector, hc]

/-- Everything copy can do next, from what the read does next. -/
theorem copyNext_cases (results : List ResultReg) :
    (∃ line, readIsoNext results = .present line ∧ copyNext results = .present line) ∨
    ∃ outcome, readIsoNext results = .finished outcome ∧ copyNext results = copyTracks outcome := by
  unfold copyNext
  cases readIsoNext results <;> simp

/-- Everything compare can do next, from what the read does next. -/
theorem compareNext_cases (p : Config.Params) (x : TrackTexts) (results : List ResultReg) :
    (∃ line, readIsoNext results = .present line ∧ compareNext p x results = .present line) ∨
    ∃ outcome, readIsoNext results = .finished outcome ∧
      compareNext p x results = .done (compareTracks p x outcome) := by
  unfold compareNext
  cases readIsoNext results <;> simp

end Sys2Proof.Machine
end

