-- ==== Sys2Proof/Laws/Packetizer.lean ====
section
/-! SUPPORT. What the packetizer's functions do, said once: the header's fields, one packet, `unframe` of a packet and of
any report (30_encoding.md R70-R75; 40_packetizer.md R103, R106). -/

namespace Sys2Proof.Machine

/-- LEN is the header modulo 64. -/
theorem headerLen_eq_mod : ∀ h : Byte, headerLen h = h.toNat % 64 := by decide

/-- A header's FIRST is the one it was made with. -/
theorem mkHeader_first (f l : Bool) {n : Nat} (h : n < 64) : (mkHeader f l n).getLsbD 7 = f := by
  have all : ∀ (f l : Bool) (n : Fin 64), (mkHeader f l n).getLsbD 7 = f := by decide
  exact all f l ⟨n, h⟩

/-- A header's LAST is the one it was made with. -/
theorem mkHeader_last (f l : Bool) {n : Nat} (h : n < 64) : (mkHeader f l n).getLsbD 6 = l := by
  have all : ∀ (f l : Bool) (n : Fin 64), (mkHeader f l n).getLsbD 6 = l := by decide
  exact all f l ⟨n, h⟩

/-- A header's LEN is the one it was made with. -/
theorem mkHeader_len (f l : Bool) {n : Nat} (h : n < 64) : headerLen (mkHeader f l n) = n := by
  have all : ∀ (f l : Bool) (n : Fin 64), headerLen (mkHeader f l n) = n := by decide
  exact all f l ⟨n, h⟩

/-- A header is the sum of its fields' weights (R71). -/
theorem mkHeader_eq_ofNat (f l : Bool) {n : Nat} (h : n < 64) :
    mkHeader f l n = BitVec.ofNat 8 ((if f then 0x80 else 0) + (if l then 0x40 else 0) + n) := by
  have all : ∀ (f l : Bool) (n : Fin 64),
      mkHeader f l n = BitVec.ofNat 8 ((if f then 0x80 else 0) + (if l then 0x40 else 0) + n) := by decide
  exact all f l ⟨n, h⟩

/-- The length of chunk `k` is below 64. -/
theorem chunkLength_lt (p : Bytes) (k : Nat) : min 63 (p.length - 63 * k) < 64 := by omega

/-- Packet `k`: header, chunk, zero padding. -/
theorem packet_eq (p : Bytes) (k : Nat) :
    packet p k =
      mkHeader (k == 0) (63 * k + min 63 (p.length - 63 * k) == p.length) (min 63 (p.length - 63 * k)) ::
        ((p.drop (63 * k)).take 63 ++ List.replicate (63 - ((p.drop (63 * k)).take 63).length) 0x00#8) := by
  have chunk : memRead p (63 * k) (min 63 (p.length - 63 * k)) = (p.drop (63 * k)).take 63 := by
    simp only [memRead]
    by_cases h : 63 ≤ p.length - 63 * k
    · rw [Nat.min_eq_left h]
    · rw [Nat.min_eq_right (by omega), List.take_of_length_le (by simp), List.take_of_length_le (by simp; omega)]
  simp only [packet, chunk, zeros]
  simp

/-- A packet is 64 bytes (R70). -/
@[simp] theorem packet_length (p : Bytes) (k : Nat) : (packet p k).length = 64 := by
  rw [packet_eq]; simp

@[simp] theorem frame_length (p : Bytes) : (frame p).length = packetCount p.length := by simp [frame]

/-- An entry of `frame` is the packet of its index. -/
theorem frame_getElem? {p : Bytes} {k : Nat} {r : Bytes} (h : (frame p)[k]? = some r) :
    k < packetCount p.length ∧ r = packet p k := by
  simp only [frame, List.getElem?_map, Option.map_eq_some_iff] at h
  obtain ⟨j, hj, rfl⟩ := h
  obtain ⟨h1, h2⟩ := List.getElem?_eq_some_iff.mp hj
  simp only [List.length_range] at h1
  simp only [List.getElem_range] at h2
  exact ⟨h2 ▸ h1, by rw [h2]⟩

/-- Only the last packet's chunk ends at the payload's end (R103). -/
theorem packet_ends_iff (p : Bytes) {k : Nat} (hk : k < packetCount p.length) :
    63 * k + min 63 (p.length - 63 * k) = p.length ↔ k + 1 = packetCount p.length := by
  simp only [packetCount] at *; omega

/-- UNFRAME of a packet gives its chunk back (R105). -/
theorem unframe_packet (p : Bytes) (k : Nat) :
    unframe (packet p k) =
      ((p.drop (63 * k)).take 63, decide (63 * k + min 63 (p.length - 63 * k) = p.length), .wellFormed) := by
  have hl := packet_length p k
  have hn : min 63 (p.length - 63 * k) = ((p.drop (63 * k)).take 63).length := by simp
  rw [packet_eq] at *
  have hh := mkHeader_last (k == 0) (63 * k + min 63 (p.length - 63 * k) == p.length) (chunkLength_lt p k)
  simp only [unframe, mkHeader_len _ _ (chunkLength_lt p k), hl]
  rw [if_neg (by omega), headerLast, hh]
  simp only [memRead, List.drop_one, List.tail_cons]
  rw [hn]
  simp [beq_eq_decide]

/-- UNFRAME of any report: fragment and is_last (R106). -/
theorem unframe_eq_reportFragment (r : Bytes) : ((unframe r).1, (unframe r).2.1) = Safety.reportFragment r := by
  cases r with
  | nil => rfl
  | cons h tl =>
    simp only [unframe, Safety.reportFragment, headerLen_eq_mod, memRead, headerLast]
    by_cases hc : h.toNat % 64 ≤ tl.length
    · rw [if_neg (by simp; omega), if_pos hc]; simp
    · rw [if_pos (by simp; omega), if_neg hc]

end Sys2Proof.Machine
end

