-- ==== Sys2Proof/Laws/PerInstr.lean ====
section
/-! SUPPORT. The per-instruction family RowMatch: the bits of an instruction that its row of spec/opcode_table.json
fixes stand in its encoding. -/

namespace Sys2Proof.Laws.RowMatch

/-- A row of spec/opcode_table.json: whether its format is DEVCMD16, its match and its mask. -/
structure Row where
  device : Bool
  matchBits : CmdWord
  mask : CmdWord
deriving DecidableEq, Repr

/-- The row of an instruction, as spec/opcode_table.json writes it. -/
def row (i : Instr) : Row :=
  match i with
  | .frame _ => ⟨false, 0x0100#16, 0xFFFF#16⟩
  | .unframe _ => ⟨false, 0x0200#16, 0xFFFF#16⟩
  | .send _ => ⟨false, 0x0300#16, 0xFFFF#16⟩
  | .receive _ => ⟨false, 0x0400#16, 0xFFFF#16⟩
  | .flush _ => ⟨false, 0x0500#16, 0xFFFF#16⟩
  | .normalize _ _ => ⟨false, 0x1000#16, 0xFF00#16⟩
  | .validate _ _ => ⟨false, 0x1100#16, 0xFF00#16⟩
  | .buildIso _ => ⟨false, 0x1200#16, 0xFFFF#16⟩
  | .buildRaw _ => ⟨false, 0x1300#16, 0xFFFF#16⟩
  | .parseIso _ => ⟨false, 0x1400#16, 0xFFFF#16⟩
  | .parseRaw _ => ⟨false, 0x1500#16, 0xFFFF#16⟩
  | .devReset _ _ => ⟨true, 0x1B61#16, 0xFFFF#16⟩
  | .testComm _ _ => ⟨true, 0x1B65#16, 0xFFFF#16⟩
  | .testRam _ _ => ⟨true, 0x1B74#16, 0xFFFF#16⟩
  | .testSensor _ _ => ⟨true, 0x1B86#16, 0xFFFF#16⟩
  | .getFirmware _ _ => ⟨true, 0x1B76#16, 0xFFFF#16⟩
  | .ledAllOff _ _ => ⟨true, 0x1B81#16, 0xFFFF#16⟩
  | .ledAllOn _ _ => ⟨true, 0x1B82#16, 0xFFFF#16⟩
  | .ledGreen _ _ => ⟨true, 0x1B83#16, 0xFFFF#16⟩
  | .ledYellow _ _ => ⟨true, 0x1B84#16, 0xFFFF#16⟩
  | .ledRed _ _ => ⟨true, 0x1B85#16, 0xFFFF#16⟩
  | .readIso _ _ => ⟨true, 0x1B72#16, 0xFFFF#16⟩
  | .readRaw _ _ => ⟨true, 0x1B6D#16, 0xFFFF#16⟩
  | .writeIso _ _ => ⟨true, 0x1B77#16, 0xFFFF#16⟩
  | .writeRaw _ _ => ⟨true, 0x1B6E#16, 0xFFFF#16⟩
  | .erase _ _ => ⟨true, 0x1B63#16, 0xFFFF#16⟩
  | .setHico _ _ => ⟨true, 0x1B78#16, 0xFFFF#16⟩
  | .setLoco _ _ => ⟨true, 0x1B79#16, 0xFFFF#16⟩
  | .getCoercivity _ _ => ⟨true, 0x1B64#16, 0xFFFF#16⟩
  | .setBpi _ _ => ⟨true, 0x1B62#16, 0xFFFF#16⟩
  | .setBpc _ _ => ⟨true, 0x1B6F#16, 0xFFFF#16⟩
  | .setLeadingZero _ _ => ⟨true, 0x1B7A#16, 0xFFFF#16⟩
  | .getLeadingZero _ _ => ⟨true, 0x1B6C#16, 0xFFFF#16⟩

/-- The 16 bits a row compares: the command word (CMD16), or the first two bytes of operand A (DEVCMD16)
(42_command_catalog.md R180). -/
def tableBits (device : Bool) (c : Command) : Option CmdWord :=
  if device then
    match c.ops.a with
    | some [hi, lo] => some (mkWord hi lo)
    | _ => none
  else some c.cw

/-- The encoding of `i` holds the bits its row fixes. -/
def Statement (i : Instr) : Prop :=
  ∃ w, tableBits (row i).device (encode i) = some w ∧ w &&& (row i).mask = (row i).matchBits

/-- The ARG bits of NORMALIZE's word do not show under its mask. -/
theorem normalize_word_masked : ∀ t : Byte, mkWord 0x10#8 t &&& 0xFF00#16 = 0x1000#16 := by decide

/-- The ARG bits of VALIDATE's word do not show under its mask. -/
theorem validate_word_masked : ∀ t : Byte, mkWord 0x11#8 t &&& 0xFF00#16 = 0x1100#16 := by decide

theorem frame (ops : Operands) : Statement (.frame ops) :=
  ⟨_, rfl, by simp only [encode, mkCommand, row, OpCode.code]; decide⟩

theorem unframe (ops : Operands) : Statement (.unframe ops) :=
  ⟨_, rfl, by simp only [encode, mkCommand, row, OpCode.code]; decide⟩

theorem send (ops : Operands) : Statement (.send ops) :=
  ⟨_, rfl, by simp only [encode, mkCommand, row, OpCode.code]; decide⟩

theorem receive (ops : Operands) : Statement (.receive ops) :=
  ⟨_, rfl, by simp only [encode, mkCommand, row, OpCode.code]; decide⟩

theorem flush (ops : Operands) : Statement (.flush ops) :=
  ⟨_, rfl, by simp only [encode, mkCommand, row, OpCode.code]; decide⟩

theorem normalize (t : Byte) (ops : Operands) : Statement (.normalize t ops) :=
  ⟨_, rfl, normalize_word_masked t⟩

theorem validate (t : Byte) (ops : Operands) : Statement (.validate t ops) :=
  ⟨_, rfl, validate_word_masked t⟩

theorem buildIso (ops : Operands) : Statement (.buildIso ops) :=
  ⟨_, rfl, by simp only [encode, mkCommand, row, OpCode.code]; decide⟩

theorem buildRaw (ops : Operands) : Statement (.buildRaw ops) :=
  ⟨_, rfl, by simp only [encode, mkCommand, row, OpCode.code]; decide⟩

theorem parseIso (ops : Operands) : Statement (.parseIso ops) :=
  ⟨_, rfl, by simp only [encode, mkCommand, row, OpCode.code]; decide⟩

theorem parseRaw (ops : Operands) : Statement (.parseRaw ops) :=
  ⟨_, rfl, by simp only [encode, mkCommand, row, OpCode.code]; decide⟩

theorem devReset (data spare : Operand) : Statement (.devReset data spare) :=
  ⟨_, rfl, by simp only [row]; decide⟩

theorem testComm (data spare : Operand) : Statement (.testComm data spare) :=
  ⟨_, rfl, by simp only [row]; decide⟩

theorem testRam (data spare : Operand) : Statement (.testRam data spare) :=
  ⟨_, rfl, by simp only [row]; decide⟩

theorem testSensor (data spare : Operand) : Statement (.testSensor data spare) :=
  ⟨_, rfl, by simp only [row]; decide⟩

theorem getFirmware (data spare : Operand) : Statement (.getFirmware data spare) :=
  ⟨_, rfl, by simp only [row]; decide⟩

theorem ledAllOff (data spare : Operand) : Statement (.ledAllOff data spare) :=
  ⟨_, rfl, by simp only [row]; decide⟩

theorem ledAllOn (data spare : Operand) : Statement (.ledAllOn data spare) :=
  ⟨_, rfl, by simp only [row]; decide⟩

theorem ledGreen (data spare : Operand) : Statement (.ledGreen data spare) :=
  ⟨_, rfl, by simp only [row]; decide⟩

theorem ledYellow (data spare : Operand) : Statement (.ledYellow data spare) :=
  ⟨_, rfl, by simp only [row]; decide⟩

theorem ledRed (data spare : Operand) : Statement (.ledRed data spare) :=
  ⟨_, rfl, by simp only [row]; decide⟩

theorem readIso (data spare : Operand) : Statement (.readIso data spare) :=
  ⟨_, rfl, by simp only [row]; decide⟩

theorem readRaw (data spare : Operand) : Statement (.readRaw data spare) :=
  ⟨_, rfl, by simp only [row]; decide⟩

theorem writeIso (data spare : Operand) : Statement (.writeIso data spare) :=
  ⟨_, rfl, by simp only [row]; decide⟩

theorem writeRaw (data spare : Operand) : Statement (.writeRaw data spare) :=
  ⟨_, rfl, by simp only [row]; decide⟩

theorem erase (data spare : Operand) : Statement (.erase data spare) :=
  ⟨_, rfl, by simp only [row]; decide⟩

theorem setHico (data spare : Operand) : Statement (.setHico data spare) :=
  ⟨_, rfl, by simp only [row]; decide⟩

theorem setLoco (data spare : Operand) : Statement (.setLoco data spare) :=
  ⟨_, rfl, by simp only [row]; decide⟩

theorem getCoercivity (data spare : Operand) : Statement (.getCoercivity data spare) :=
  ⟨_, rfl, by simp only [row]; decide⟩

theorem setBpi (data spare : Operand) : Statement (.setBpi data spare) :=
  ⟨_, rfl, by simp only [row]; decide⟩

theorem setBpc (data spare : Operand) : Statement (.setBpc data spare) :=
  ⟨_, rfl, by simp only [row]; decide⟩

theorem setLeadingZero (data spare : Operand) : Statement (.setLeadingZero data spare) :=
  ⟨_, rfl, by simp only [row]; decide⟩

theorem getLeadingZero (data spare : Operand) : Statement (.getLeadingZero data spare) :=
  ⟨_, rfl, by simp only [row]; decide⟩

end Sys2Proof.Laws.RowMatch
end

