-- ==== Sys2Proof/Tests/Slice0.lean ====
section
/-! SUPPORT. Tests. Expected values are the spec's: the tables of 30_encoding.md and 42_command_catalog.md, and the
vectors S<n>, V<n> and programs P<n> of 95_test_vectors.md, named before each test. The witnesses at the end show, for
each obligation with hypotheses, values that meet them. -/

namespace Sys2Proof.Tests

open Sys2Proof Sys2Proof.Machine

/-- The block after reset with an empty inbound queue. -/
def idle : State := { State.reset with inQ := [] }

/-- No operand. -/
def noOps : Operands := ⟨none, none, none⟩

/-- Operand A alone. -/
def opsA (a : Bytes) : Operands := ⟨some a, none, none⟩

/-- The next state of an outcome, if it is one. -/
def nextOf (o : Host.Outcome State Fault Refusal) : Option State :=
  match o with
  | .next t => some t
  | .fault _ => none
  | .refused _ => none

/-- The fault of an outcome, if it is one. -/
def faultOf (o : Host.Outcome State Fault Refusal) : Option Fault :=
  match o with
  | .next _ => none
  | .fault f => some f
  | .refused _ => none

/-- One step of the block with a command presented, from a state. -/
def given (s : State) (cw : CmdWord) (ops : Operands) : Option State := nextOf (step (presentNext ⟨cw, ops⟩ s))

/-- The result register after that step. -/
def result (cw : CmdWord) (ops : Operands) : Option ResultReg := (given idle cw ops).map State.res

/-- Status and bytes after that step. -/
def bytesOf (cw : CmdWord) (ops : Operands) : Option (Status × Bytes) :=
  (result cw ops).map fun r => (r.status, r.bytes)

/-- One move, from a state. -/
def moved (s : State) (m : Move) : Option State := nextOf (step { s with agenda := [m] })

/-- `n` bytes of one value. -/
def many (n : Nat) (b : Byte) : Bytes := List.replicate n b

/-! ### Decode: a written word for every constructor (30_encoding.md R81, R82; 42_command_catalog.md R181-R202) -/

theorem test_decode_frame : decodeTableWord 16 0b0000000100000000 = some (.frame noOps) := by decide

theorem test_decode_unframe : decodeTableWord 16 0b0000001000000000 = some (.unframe noOps) := by decide

theorem test_decode_send : decodeTableWord 16 0b0000001100000000 = some (.send noOps) := by decide

theorem test_decode_receive : decodeTableWord 16 0b0000010000000000 = some (.receive noOps) := by decide

theorem test_decode_flush : decodeTableWord 16 0b0000010100000000 = some (.flush noOps) := by decide

theorem test_decode_normalize : decodeTableWord 16 0b0001000000000001 = some (.normalize 0x01#8 noOps) := by decide

theorem test_decode_validate : decodeTableWord 16 0b0001000100000011 = some (.validate 0x03#8 noOps) := by decide

theorem test_decode_buildIso : decodeTableWord 16 0b0001001000000000 = some (.buildIso noOps) := by decide

theorem test_decode_buildRaw : decodeTableWord 16 0b0001001100000000 = some (.buildRaw noOps) := by decide

theorem test_decode_parseIso : decodeTableWord 16 0b0001010000000000 = some (.parseIso noOps) := by decide

theorem test_decode_parseRaw : decodeTableWord 16 0b0001010100000000 = some (.parseRaw noOps) := by decide

theorem test_decode_devReset : decodeTableWord 16 0b0001101101100001 = some (.devReset none none) := by decide

theorem test_decode_testComm : decodeTableWord 16 0b0001101101100101 = some (.testComm none none) := by decide

theorem test_decode_testRam : decodeTableWord 16 0b0001101101110100 = some (.testRam none none) := by decide

theorem test_decode_testSensor : decodeTableWord 16 0b0001101110000110 = some (.testSensor none none) := by decide

theorem test_decode_getFirmware : decodeTableWord 16 0b0001101101110110 = some (.getFirmware none none) := by decide

theorem test_decode_ledAllOff : decodeTableWord 16 0b0001101110000001 = some (.ledAllOff none none) := by decide

theorem test_decode_ledAllOn : decodeTableWord 16 0b0001101110000010 = some (.ledAllOn none none) := by decide

theorem test_decode_ledGreen : decodeTableWord 16 0b0001101110000011 = some (.ledGreen none none) := by decide

theorem test_decode_ledYellow : decodeTableWord 16 0b0001101110000100 = some (.ledYellow none none) := by decide

theorem test_decode_ledRed : decodeTableWord 16 0b0001101110000101 = some (.ledRed none none) := by decide

theorem test_decode_readIso : decodeTableWord 16 0b0001101101110010 = some (.readIso none none) := by decide

theorem test_decode_readRaw : decodeTableWord 16 0b0001101101101101 = some (.readRaw none none) := by decide

theorem test_decode_writeIso : decodeTableWord 16 0b0001101101110111 = some (.writeIso none none) := by decide

theorem test_decode_writeRaw : decodeTableWord 16 0b0001101101101110 = some (.writeRaw none none) := by decide

theorem test_decode_erase : decodeTableWord 16 0b0001101101100011 = some (.erase none none) := by decide

theorem test_decode_setHico : decodeTableWord 16 0b0001101101111000 = some (.setHico none none) := by decide

theorem test_decode_setLoco : decodeTableWord 16 0b0001101101111001 = some (.setLoco none none) := by decide

theorem test_decode_getCoercivity : decodeTableWord 16 0b0001101101100100 = some (.getCoercivity none none) := by decide

theorem test_decode_setBpi : decodeTableWord 16 0b0001101101100010 = some (.setBpi none none) := by decide

theorem test_decode_setBpc : decodeTableWord 16 0b0001101101101111 = some (.setBpc none none) := by decide

theorem test_decode_setLeadingZero : decodeTableWord 16 0b0001101101111010 = some (.setLeadingZero none none) := by decide

theorem test_decode_getLeadingZero : decodeTableWord 16 0b0001101101101100 = some (.getLeadingZero none none) := by decide

/-- V1, V5: reserved OP values. -/
theorem test_decode_reserved :
    decode ⟨0x0000#16, noOps⟩ = .reservedOp 0x00#8 ∧ decode ⟨0x0601#16, noOps⟩ = .reservedOp 0x06#8 ∧
      decode ⟨0xFF00#16, noOps⟩ = .reservedOp 0xFF#8 ∧ decodeTableWord 16 0x1600 = none := by decide

/-- V7: ARG must be 0. -/
theorem test_decode_illegal_arg : decode ⟨0x0101#16, opsA [0xAA#8]⟩ = .illegalArg 0x01#8 0x01#8 := by decide

/-- V61, V50, V154: which SEND is a device command. -/
theorem test_decode_send_by_opcode :
    decode ⟨0x0300#16, opsA [0x00#8, 0x00#8]⟩ = .instr (.send (opsA [0x00#8, 0x00#8])) ∧
      decode ⟨0x0300#16, opsA [0x1B#8]⟩ = .instr (.send (opsA [0x1B#8])) ∧
      decode ⟨0x0300#16, opsA [0x1B#8, 0x61#8, 0x00#8]⟩ = .instr (.send (opsA [0x1B#8, 0x61#8, 0x00#8])) ∧
      decode ⟨0x0300#16, ⟨some [0x1B#8, 0x63#8], some [0x07#8], none⟩⟩ = .instr (.erase (some [0x07#8]) none) := by
  decide

/-! ### WellFormed: an ill-formed term for each check -/

theorem test_wf_unframe : (Instr.unframe noOps).wellFormed = false ∧ (Instr.unframe (opsA [])).wellFormed = true := by
  decide

theorem test_wf_send_length :
    (Instr.send (opsA [])).wellFormed = false ∧ (Instr.send (opsA [0x1B#8, 0x61#8, 0x00#8])).wellFormed = false ∧
      (Instr.send (opsA [0x1B#8])).wellFormed = true := by decide

theorem test_wf_send_catalog :
    (Instr.send (opsA [0x1B#8, 0x61#8])).wellFormed = false ∧ (Instr.send (opsA [0x1B#8, 0x60#8])).wellFormed = true := by
  decide

theorem test_wf_track :
    (Instr.normalize 0x00#8 noOps).wellFormed = false ∧ (Instr.normalize 0x03#8 noOps).wellFormed = true ∧
      (Instr.validate 0x04#8 noOps).wellFormed = false ∧ (Instr.validate 0x01#8 noOps).wellFormed = true := by decide

theorem test_wf_buildRaw_a : (Instr.buildRaw ⟨some (many 256 0x00#8), none, none⟩).wellFormed = false := by decide +kernel

theorem test_wf_buildRaw_b : (Instr.buildRaw ⟨none, some (many 256 0x00#8), none⟩).wellFormed = false := by decide +kernel

theorem test_wf_buildRaw_c : (Instr.buildRaw ⟨none, none, some (many 256 0x00#8)⟩).wellFormed = false := by decide +kernel

theorem test_wf_buildRaw_ok : (Instr.buildRaw ⟨some (many 255 0x00#8), none, none⟩).wellFormed = true := by decide +kernel

theorem test_wf_no_data :
    (DevCmd.devReset.instr (some []) none).wellFormed = false ∧ (DevCmd.testComm.instr (some []) none).wellFormed = false ∧
      (DevCmd.testRam.instr (some []) none).wellFormed = false ∧
      (DevCmd.testSensor.instr (some []) none).wellFormed = false ∧
      (DevCmd.getFirmware.instr (some []) none).wellFormed = false ∧
      (DevCmd.ledAllOff.instr (some []) none).wellFormed = false ∧
      (DevCmd.ledAllOn.instr (some []) none).wellFormed = false ∧
      (DevCmd.ledGreen.instr (some []) none).wellFormed = false := by decide

theorem test_wf_no_data_more :
    (DevCmd.ledYellow.instr (some []) none).wellFormed = false ∧ (DevCmd.ledRed.instr (some []) none).wellFormed = false ∧
      (DevCmd.readIso.instr (some []) none).wellFormed = false ∧ (DevCmd.readRaw.instr (some []) none).wellFormed = false ∧
      (DevCmd.setHico.instr (some []) none).wellFormed = false ∧ (DevCmd.setLoco.instr (some []) none).wellFormed = false ∧
      (DevCmd.getCoercivity.instr (some []) none).wellFormed = false ∧
      (DevCmd.getLeadingZero.instr (some []) none).wellFormed = false := by decide

theorem test_wf_write_data :
    (Instr.writeIso none none).wellFormed = false ∧ (Instr.writeRaw none none).wellFormed = false := by decide

theorem test_wf_erase :
    (Instr.erase none none).wellFormed = false ∧ (Instr.erase (some [0x08#8]) none).wellFormed = false ∧
      (Instr.erase (some [0x01#8, 0x02#8]) none).wellFormed = false ∧ (Instr.erase (some [0x07#8]) none).wellFormed = true := by
  decide

theorem test_wf_setBpi :
    (Instr.setBpi none none).wellFormed = false ∧ (Instr.setBpi (some [0x00#8, 0x00#8]) none).wellFormed = false ∧
      (Instr.setBpi (some [0x01#8, 0x02#8]) none).wellFormed = false ∧
      (Instr.setBpi (some [0x03#8, 0x01#8]) none).wellFormed = true := by decide

/-! ### One step of each instruction -/

/-- V1, V6: a reserved OP, which outranks a bad ARG. -/
theorem test_reserved :
    (result 0x0000#16 noOps).map (fun r => (r.status, r.op, r.ok)) = some (.illegalOperation, 0x00#8, false) ∧
      (result 0x0601#16 noOps).map (fun r => (r.status, r.op)) = some (.illegalOperation, 0x06#8) := by decide

/-- V7, V9, V10: an illegal ARG. -/
theorem test_illegal_arg :
    (result 0x0101#16 (opsA [0xAA#8])).map ResultReg.status = some .invalidFormat ∧
      (result 0x1004#16 (opsA [0x78#8])).map ResultReg.status = some .invalidFormat ∧
      (result 0x11FF#16 (opsA [0x78#8])).map ResultReg.status = some .invalidFormat := by decide

/-- V11: a command presented while MODE = RX is held. -/
theorem test_held :
    (given { idle with mode := .rx } 0x0400#16 noOps).map (fun t => (t.port, t.mode, t.res.valid)) =
      some ([⟨0x0400#16, noOps⟩], .rx, false) := by decide

/-- V25: FRAME of 64 bytes. -/
theorem test_frame_64 :
    (result 0x0100#16 (opsA (many 63 0xAA#8 ++ [0xBB#8]))).map (fun r => (r.status, r.count, r.pkts)) =
      some (.ok, 2, [[0xBF#8] ++ many 63 0xAA#8, [0x41#8, 0xBB#8] ++ many 62 0x00#8]) := by decide

/-- V20, V32: FRAME of nothing, and of a payload above MAX_PAYLOAD. -/
theorem test_frame_bounds :
    (result 0x0100#16 noOps).map (fun r => (r.count, r.pkts)) = some (1, [[0xC0#8] ++ many 63 0x00#8]) ∧
      (given { idle with params := { Config.defaultParams with maxPayload := some 10 } } 0x0100#16
        (opsA (many 11 0x00#8))).map (fun t => (t.res.status, t.res.pkts, t.res.count)) =
        some (.invalidFormat, [], 0) := by decide

/-- V39: UNFRAME ignores FIRST. -/
theorem test_unframe :
    (result 0x0200#16 (opsA ([0x85#8, 0x41#8, 0x42#8, 0x43#8, 0x44#8, 0x45#8] ++ many 58 0x00#8))).map
      (fun r => (r.status, r.bytes, r.flag)) = some (.ok, [0x41#8, 0x42#8, 0x43#8, 0x44#8, 0x45#8], false) := by decide

/-- V43, V44: a malformed report, and a short one that holds its LEN bytes. -/
theorem test_unframe_short :
    bytesOf 0x0200#16 (opsA [0x45#8, 0x41#8, 0x42#8]) = some (.invalidFormat, []) ∧
      (result 0x0200#16 (opsA [0x42#8, 0x41#8, 0x42#8])).map (fun r => (r.bytes, r.flag)) =
        some ([0x41#8, 0x42#8], true) := by decide

/-- V51: a 1-byte opcode is legal. -/
theorem test_send :
    (given idle 0x0300#16 (opsA [0x1B#8])).map (fun t => (t.mode, t.txPkts, t.res.valid)) =
      some (.tx, [[0xC1#8, 0x1B#8] ++ many 62 0x00#8], false) := by decide

/-- V52, V54: opcodes of length 0 and 3. -/
theorem test_send_length :
    (result 0x0300#16 (opsA [])).map ResultReg.status = some .invalidFormat ∧
      (result 0x0300#16 (opsA [0x1B#8, 0x61#8, 0x00#8])).map ResultReg.status = some .invalidFormat := by decide

/-- A SEND in flight, at its second report of two. -/
def sending : State :=
  { idle with
    mode := .tx, lat := { Latches.reset with opl := 0x03#8 }
    txPkts := [[0xBF#8] ++ many 63 0xAA#8, [0x41#8, 0xBB#8] ++ many 62 0x00#8], txIdx := 1 }

/-- R111: the last report is accepted. -/
theorem test_transmit_ok :
    (moved sending (.block .ok)).map (fun t => (t.mode, t.res.status, t.res.count, t.txIdx)) =
        some (.idle, .ok, 2, 0) ∧
      (moved sending (.block .ok)).map State.out = some [[0x41#8, 0xBB#8] ++ many 62 0x00#8] := by decide

/-- V58: the second report fails. -/
theorem test_transmit_fail :
    (moved sending (.block .fail)).map (fun t => (t.mode, t.res.status, t.res.count, t.out)) =
      some (.idle, .communicationError, 1, []) := by decide

/-- V12: while MODE = TX a step emits, whatever waits on the port. -/
theorem test_transmit_holds :
    (given { sending with txIdx := 0 } 0x0500#16 noOps).map (fun t => (t.mode, t.txIdx, t.port)) =
      some (.tx, 1, [⟨0x0500#16, noOps⟩]) := by decide

/-- R115: RECEIVE keeps what IN_Q holds. -/
theorem test_receive :
    (given { idle with inQ := [[0xC1#8, 0x41#8]], rxAcc := [0x00#8], rxLast := true } 0x0400#16 noOps).map
      (fun t => (t.mode, t.inQ, t.rxAcc, t.rxLast)) = some (.rx, [[0xC1#8, 0x41#8]], [], false) := by decide

/-- A RECEIVE in flight with two bytes accumulated. -/
def receiving : State :=
  { idle with mode := .rx, lat := { Latches.reset with opl := 0x04#8 }, rxAcc := [0x41#8, 0x42#8] }

/-- V71, V70: the last fragment completes the message, and later reports stay. -/
theorem test_receive_last :
    (moved { receiving with inQ := [[0x41#8, 0x43#8], [0xC1#8, 0x42#8]] } (.block .ok)).map
      (fun t => (t.res.status, t.res.bytes, t.res.flag, t.inQ)) =
      some (.ok, [0x41#8, 0x42#8, 0x43#8], true, [[0xC1#8, 0x42#8]]) := by decide

/-- V66: a last fragment of an empty message. -/
theorem test_receive_empty :
    (moved { receiving with rxAcc := [], inQ := [[0xC0#8] ++ many 63 0x00#8] } (.block .ok)).map
      (fun t => (t.res.status, t.res.bytes, t.res.flag, t.mode)) = some (.emptyMessage, [], true, .idle) := by decide

/-- V69: a malformed report adds nothing and does not end the RECEIVE. -/
theorem test_receive_malformed :
    (moved { receiving with inQ := [[0xC5#8, 0x41#8]] } (.block .ok)).map (fun t => (t.mode, t.rxAcc, t.inQ)) =
      some (.rx, [0x41#8, 0x42#8], []) := by decide

/-- V74: overflow, with the reports behind it left. -/
theorem test_receive_overflow :
    (moved { receiving with
        params := { Config.defaultParams with rxCap := some 2 }, inQ := [[0x41#8, 0x43#8], [0xC1#8, 0x44#8]] }
      (.block .ok)).map (fun t => (t.res.status, t.res.bytes, t.rxAcc, t.inQ)) =
      some (.rxOverflow, [], [], [[0xC1#8, 0x44#8]]) := by decide

/-- V67, V68, V78: DEADLINE. -/
theorem test_deadline :
    (moved receiving .deadline).map (fun t => (t.res.status, t.res.bytes, t.res.flag)) =
        some (.ok, [0x41#8, 0x42#8], false) ∧
      (moved { receiving with rxAcc := [] } .deadline).map (fun t => (t.res.status, t.res.flag)) =
        some (.timeout, false) ∧
      (moved idle .deadline).map (fun t => (t.mode, t.res.valid)) = some (.idle, false) := by decide

/-- V81: FLUSH. -/
theorem test_flush :
    (given { idle with inQ := [[0x01#8], [0x02#8]] } 0x0500#16 noOps).map (fun t => (t.res.status, t.res.count, t.inQ)) =
      some (.ok, 2, []) := by decide

/-- R120: an append, and an append to a full queue. -/
theorem test_append :
    (moved sending (.append [0xC0#8])).map State.inQ = some [[0xC0#8]] ∧
      (moved { idle with params := { Config.defaultParams with inqCap := some 1 }, inQ := [[0x01#8]] }
        (.append [0xC0#8])).map State.inQ = some [[0x01#8]] := by decide

/-- V89, V97: maximal runs are stripped, and only runs. -/
theorem test_normalize :
    bytesOf 0x1001#16 (opsA (ascii "%%a??")) = some (.ok, ascii "A") ∧
      bytesOf 0x1001#16 (opsA (ascii "%?%")) = some (.ok, ascii "?%") := by decide

/-- V91, V92, V93: tracks 2 and 3. -/
theorem test_normalize_23 :
    bytesOf 0x1002#16 (opsA (ascii "%1?")) = some (.ok, ascii "%1") ∧
      bytesOf 0x1002#16 (opsA (ascii ";ab")) = some (.ok, ascii "ab") ∧
      bytesOf 0x1003#16 (opsA (ascii ";;12?")) = some (.ok, ascii "12") := by decide

/-- V111, V113: track 1 at and above its length; LENGTH comes first. -/
theorem test_validate_length :
    (result 0x1101#16 (opsA (many 79 0x41#8))).map (fun r => (r.flag, r.err)) = some (true, .none) ∧
      (result 0x1101#16 (opsA (many 80 0x61#8))).map (fun r => (r.status, r.flag, r.err)) =
        some (.ok, false, .length) := by decide

/-- V106, V108: the character set of track 2. -/
theorem test_validate_charset :
    (result 0x1102#16 (opsA (ascii ";1234=5678?"))).map (fun r => (r.flag, r.err)) = some (true, .none) ∧
      (result 0x1102#16 (opsA (ascii "12A"))).map (fun r => (r.flag, r.err)) = some (false, .charset) := by decide

/-- S4. -/
theorem test_buildIso :
    bytesOf 0x1200#16 ⟨some (ascii "JOHN DOE"), some (ascii "1234567890"), none⟩ = some (.ok,
      [0x1B#8, 0x73#8, 0x1B#8, 0x01#8, 0x4A#8, 0x4F#8, 0x48#8, 0x4E#8, 0x20#8, 0x44#8, 0x4F#8, 0x45#8, 0x1B#8, 0x02#8,
        0x31#8, 0x32#8, 0x33#8, 0x34#8, 0x35#8, 0x36#8, 0x37#8, 0x38#8, 0x39#8, 0x30#8, 0x1B#8, 0x03#8, 0x3F#8,
        0x1C#8]) := by decide

/-- V122: the sentinels of the input are removed. -/
theorem test_buildIso_sentinels :
    bytesOf 0x1200#16 ⟨some (ascii "%a?"), some (ascii ";1?"), none⟩ = some (.ok,
      [0x1B#8, 0x73#8, 0x1B#8, 0x01#8, 0x41#8, 0x1B#8, 0x02#8, 0x31#8, 0x1B#8, 0x03#8, 0x3F#8, 0x1C#8]) := by decide

/-- V125. -/
theorem test_buildRaw :
    bytesOf 0x1300#16 ⟨some [0x01#8, 0x02#8], none, some []⟩ = some (.ok,
      [0x1B#8, 0x73#8, 0x1B#8, 0x01#8, 0x02#8, 0x01#8, 0x02#8, 0x1B#8, 0x02#8, 0x00#8, 0x1B#8, 0x03#8, 0x00#8, 0x3F#8,
        0x1C#8]) := by decide

/-- V127. -/
theorem test_buildRaw_long : bytesOf 0x1300#16 (opsA (many 256 0x00#8)) = some (.invalidFormat, []) := by decide +kernel

/-- V136: records in track order. -/
theorem test_parseIso :
    (result 0x1400#16 (opsA [0x1B#8, 0x02#8, 0x58#8, 0x1B#8, 0x01#8, 0x59#8, 0x3F#8, 0x1C#8])).map
      (fun r => (r.status, r.recs)) =
      some (.ok, [⟨.t1, [0x59#8], true, .none⟩, ⟨.t2, [0x58#8], false, .charset⟩]) := by decide

/-- V134: a track that does not decode leaves the others alone. -/
theorem test_parseIso_decode :
    (result 0x1400#16 (opsA [0x1B#8, 0x73#8, 0x1B#8, 0x01#8, 0x41#8, 0xC3#8, 0x89#8, 0x1B#8, 0x02#8, 0x31#8, 0x32#8,
      0x33#8])).map ResultReg.recs =
      some [⟨.t1, [], false, .decode⟩, ⟨.t2, [0x31#8, 0x32#8, 0x33#8], true, .none⟩] := by decide

/-- V139: the first marker counts, and a repeat of it ends the slice. -/
theorem test_parseRaw :
    (result 0x1500#16 (opsA [0x1B#8, 0x73#8, 0x1B#8, 0x01#8, 0x41#8, 0x1B#8, 0x01#8, 0x42#8, 0x1B#8, 0x02#8, 0x43#8,
      0x3F#8, 0x1C#8])).map (fun r => (r.status, r.recs)) =
      some (.ok, [⟨.t1, [0x41#8], true, .none⟩, ⟨.t2, [0x43#8], true, .none⟩]) := by decide

/-- V144: the length byte is part of the slice. -/
theorem test_parseRaw_length_byte :
    (result 0x1500#16 (opsA [0x1B#8, 0x73#8, 0x1B#8, 0x01#8, 0x03#8, 0xAA#8, 0xBB#8, 0xCC#8, 0x1B#8, 0x02#8, 0x00#8,
      0x3F#8, 0x1C#8, 0x1B#8, 0x30#8])).map ResultReg.recs =
      some [⟨.t1, [0x03#8, 0xAA#8, 0xBB#8, 0xCC#8], true, .none⟩, ⟨.t2, [0x00#8], true, .none⟩] := by decide

/-- TX_PKTS after a SEND of an opcode and data. -/
def sentPackets (sel : Byte) (data : Operand) : Option (List Bytes) :=
  (given idle 0x0300#16 ⟨some [0x1B#8, sel], data, none⟩).map State.txPkts

/-- R181's example. -/
theorem test_devReset :
    sentPackets 0x61#8 none = some [[0xC2#8, 0x1B#8, 0x61#8] ++ many 61 0x00#8] := by decide

/-- R182's example. -/
theorem test_testComm :
    sentPackets 0x65#8 none = some [[0xC2#8, 0x1B#8, 0x65#8] ++ many 61 0x00#8] := by decide

/-- R183's example. -/
theorem test_testRam :
    sentPackets 0x74#8 none = some [[0xC2#8, 0x1B#8, 0x74#8] ++ many 61 0x00#8] := by decide

/-- R184's example. -/
theorem test_testSensor :
    sentPackets 0x86#8 none = some [[0xC2#8, 0x1B#8, 0x86#8] ++ many 61 0x00#8] := by decide

/-- R185's example. -/
theorem test_getFirmware :
    sentPackets 0x76#8 none = some [[0xC2#8, 0x1B#8, 0x76#8] ++ many 61 0x00#8] := by decide

/-- R186's example. -/
theorem test_ledAllOff :
    sentPackets 0x81#8 none = some [[0xC2#8, 0x1B#8, 0x81#8] ++ many 61 0x00#8] := by decide

/-- R187's example. -/
theorem test_ledAllOn :
    sentPackets 0x82#8 none = some [[0xC2#8, 0x1B#8, 0x82#8] ++ many 61 0x00#8] := by decide

/-- R188's example. -/
theorem test_ledGreen :
    sentPackets 0x83#8 none = some [[0xC2#8, 0x1B#8, 0x83#8] ++ many 61 0x00#8] := by decide

/-- R189's example. -/
theorem test_ledYellow :
    sentPackets 0x84#8 none = some [[0xC2#8, 0x1B#8, 0x84#8] ++ many 61 0x00#8] := by decide

/-- R190's example. -/
theorem test_ledRed :
    sentPackets 0x85#8 none = some [[0xC2#8, 0x1B#8, 0x85#8] ++ many 61 0x00#8] := by decide

/-- R191's example. -/
theorem test_readIso :
    sentPackets 0x72#8 none = some [[0xC2#8, 0x1B#8, 0x72#8] ++ many 61 0x00#8] := by decide

/-- R192's example. -/
theorem test_readRaw :
    sentPackets 0x6D#8 none = some [[0xC2#8, 0x1B#8, 0x6D#8] ++ many 61 0x00#8] := by decide

/-- R193's example. -/
theorem test_writeIso :
    sentPackets 0x77#8 (some [0x1B#8, 0x73#8, 0x1B#8, 0x01#8, 0x1B#8, 0x02#8, 0x1B#8, 0x03#8, 0x3F#8, 0x1C#8]) =
      some [[0xCC#8, 0x1B#8, 0x77#8, 0x1B#8, 0x73#8, 0x1B#8, 0x01#8, 0x1B#8, 0x02#8, 0x1B#8, 0x03#8, 0x3F#8, 0x1C#8] ++ many 51 0x00#8] := by decide

/-- R194's example. -/
theorem test_writeRaw :
    sentPackets 0x6E#8 (some [0x1B#8, 0x73#8, 0x1B#8, 0x01#8, 0x00#8, 0x1B#8, 0x02#8, 0x00#8, 0x1B#8, 0x03#8, 0x00#8, 0x3F#8, 0x1C#8]) =
      some [[0xCF#8, 0x1B#8, 0x6E#8, 0x1B#8, 0x73#8, 0x1B#8, 0x01#8, 0x00#8, 0x1B#8, 0x02#8, 0x00#8, 0x1B#8, 0x03#8, 0x00#8, 0x3F#8, 0x1C#8] ++ many 48 0x00#8] := by decide

/-- R195's example. -/
theorem test_erase :
    sentPackets 0x63#8 (some [0x05#8]) =
      some [[0xC3#8, 0x1B#8, 0x63#8, 0x05#8] ++ many 60 0x00#8] := by decide

/-- R196's example. -/
theorem test_setHico :
    sentPackets 0x78#8 none = some [[0xC2#8, 0x1B#8, 0x78#8] ++ many 61 0x00#8] := by decide

/-- R197's example. -/
theorem test_setLoco :
    sentPackets 0x79#8 none = some [[0xC2#8, 0x1B#8, 0x79#8] ++ many 61 0x00#8] := by decide

/-- R198's example. -/
theorem test_getCoercivity :
    sentPackets 0x64#8 none = some [[0xC2#8, 0x1B#8, 0x64#8] ++ many 61 0x00#8] := by decide

/-- R199's example. -/
theorem test_setBpi :
    sentPackets 0x62#8 (some [0x01#8, 0x01#8]) =
      some [[0xC4#8, 0x1B#8, 0x62#8, 0x01#8, 0x01#8] ++ many 59 0x00#8] := by decide

/-- R200's example. -/
theorem test_setBpc :
    sentPackets 0x6F#8 none = some [[0xC2#8, 0x1B#8, 0x6F#8] ++ many 61 0x00#8] := by decide

/-- R201's example. -/
theorem test_setLeadingZero :
    sentPackets 0x7A#8 none = some [[0xC2#8, 0x1B#8, 0x7A#8] ++ many 61 0x00#8] := by decide

/-- R202's example. -/
theorem test_getLeadingZero :
    sentPackets 0x6C#8 none = some [[0xC2#8, 0x1B#8, 0x6C#8] ++ many 61 0x00#8] := by decide

/-! ### HOST, the Link, and the functions over results -/

/-- R31: reads before any operation has finished. -/
theorem test_read_invalid :
    faultOf (step { idle with agenda := [.read .status] }) = some (.resultNotValid .status) ∧
      (moved idle (.read .valid)).map State.seen = some (some (.bit false)) ∧
      (moved sending (.read .mode)).map State.seen = some (some (.code 0x01#8)) := by decide

/-- R85: `@RES`, with and without a valid result (P1). -/
theorem test_present_res :
    (moved { idle with res := { ResultReg.reset with valid := true, bytes := [0x41#8] } }
      (.present ⟨0x1101#16, .res, .absent, .bytes []⟩)).map State.port =
        some [⟨0x1101#16, ⟨some [0x41#8], none, some []⟩⟩] ∧
      faultOf (step { idle with agenda := [.present ⟨0x1101#16, .res, .absent, .absent⟩] }) =
        some (.resultNotValid .bytes) := by decide

/-- R261: the Link opened during a SEND. -/
theorem test_link_open :
    (moved sending (.linkOpen [[0xC0#8]])).map (fun t => (t.mode, t.txPkts, t.inQ, t.res.valid)) =
      some (.idle, [], [[0xC0#8]], false) := by decide

/-- R40: IN_Q at reset is free; nothing else of the test needs it. -/
theorem test_reset_idle : State.reset.mode = .idle ∧ State.reset.res.valid = false ∧ State.reset.lat = Latches.reset := by
  decide

/-- V160, V161, V163, V164, V165, V167. -/
theorem test_classify :
    classify [0x1B#8, 0x72#8] [] = .fail .noCardSwipe ∧ classify [0x1B#8, 0x61#8] [] = .fail .unknownStatus ∧
      classify [0x1B#8, 0x77#8] [0x1B#8, 0x31#8] = .success ∧ classify [0x1B#8, 0x61#8] [0x41#8] = .fail .unknownStatus ∧
      classify [0x1B#8, 0x63#8] [0x1B#8] = .fail .unknownStatus ∧
      classify [0x1B#8, 0x6D#8] [0x1B#8, 0x73#8] = .success := by decide

/-- S7, V170 to V173. -/
theorem test_compare :
    compareTracks Config.defaultParams ⟨some (ascii "abc"), some (ascii ";999?"), some (ascii "77")⟩
        (.records [⟨.t1, ascii "ABC", true, .none⟩, ⟨.t2, ascii "123", true, .none⟩, ⟨.t3, ascii "77", true, .none⟩]) =
        .mismatch [.t2] ∧
      compareTracks Config.defaultParams ⟨none, none, some (ascii "1")⟩ (.records [⟨.t1, ascii "ABC", true, .none⟩]) =
        .mismatch [.t3] ∧
      compareTracks Config.defaultParams ⟨some (ascii "%abc?"), none, none⟩
        (.records [⟨.t1, ascii "ABC", true, .none⟩]) = .success ∧
      compareTracks Config.defaultParams ⟨some (ascii "ABC"), none, none⟩
        (.records [⟨.t1, ascii "%ABC?", true, .none⟩]) = .mismatch [.t1] := by decide

/-- S6, S10, V157, R206's example. -/
theorem test_data_bytes :
    eraseMask true false true = 0x05#8 ∧ eraseMask true true true = 0x07#8 ∧ eraseMask false true false = 0x02#8 ∧
      bpiData .t2 .bpi75 = [0x02#8, 0x00#8] := by decide

/-- R85's examples, V152, and a line that is none. -/
theorem test_assembler :
    assemble (ascii "NORMALIZE 1, \"%john?\"\nSEND <1B 77>, @RES ; write\n.word 0x0600") =
        some [⟨0x1001#16, .bytes (ascii "%john?"), .absent, .absent⟩,
          ⟨0x0300#16, .bytes [0x1B#8, 0x77#8], .res, .absent⟩, ⟨0x0600#16, .absent, .absent, .absent⟩] ∧
      assemble (ascii "BUILD_RAW <01 02>, -, <>\nDEV LED_RED") =
        some [⟨0x1300#16, .bytes [0x01#8, 0x02#8], .absent, .bytes []⟩,
          ⟨0x0300#16, .bytes [0x1B#8, 0x85#8], .absent, .absent⟩] ∧
      assemble (ascii "HALT") = none := by decide +kernel

/-- A finished result with the given success flag, status, bytes and records. -/
def gave (ok : Bool) (st : Status) (bytes : Bytes) (recs : List TrackRecord) : ResultReg :=
  { ResultReg.reset with valid := true, ok := ok, status := st, bytes := bytes, recs := recs }

/-- R212: copy of a read that returned track 2 alone, and of reads whose SEND failed or whose RECEIVE timed out. -/
theorem test_copy :
    copyNext [gave true .ok [] [], gave true .ok [0x1B#8, 0x30#8] [],
        gave true .ok [] [⟨.t2, ascii "1", false, .charset⟩]] =
        .write [⟨0x1200#16, .absent, .bytes [0x31#8], .absent⟩,
          ⟨0x0300#16, .bytes [0x1B#8, 0x77#8], .res, .absent⟩] ∧
      copyNext [gave false .communicationError [] []] = .readFailed .communicationError ∧
      copyNext [gave true .ok [] [], gave false .timeout [] []] = .readFailed .noCardSwipe := by decide

/-- P2's read, line by line (its FLUSH apart), and R213's result. -/
theorem test_read_lines :
    assemble (ascii "DEV READ_ISO\nRECEIVE\nPARSE_ISO @RES") = some readIsoLines ∧
      uniformResult (gave false .timeout [] []) = ⟨false, .timeout, [], []⟩ := by decide

/-! ### Witnesses: values that meet each obligation's hypotheses -/

/-- A size that no bound exceeds is within it. -/
theorem within_of {cap : Option Nat} {n : Nat} (h : exceeds cap n = false) : Safety.within cap n :=
  (exceeds_eq_false_iff cap n).mp h

/-- A size above a bound is not within it. -/
theorem not_within_of {cap : Option Nat} {n : Nat} (h : exceeds cap n = true) : ¬ Safety.within cap n := fun hw => by
  rw [(exceeds_eq_false_iff cap n).mpr hw] at h; cases h

/-- `idle` with bounds. -/
def bounded (payload rx inq : Option Nat) : State :=
  { idle with params := { Config.defaultParams with maxPayload := payload, rxCap := rx, inqCap := inq } }

/-- `idle` with a command presented and BLOCK's step next. -/
def waiting (cw : CmdWord) (ops : Operands) : State := presentNext ⟨cw, ops⟩ idle

theorem witness_StepRunsTheDecodedInstruction :
    (waiting 0x0500#16 noOps).mode = .idle ∧ (waiting 0x0500#16 noOps).agenda = .block .ok :: [] ∧
      (waiting 0x0500#16 noOps).port = ⟨0x0500#16, noOps⟩ :: [] ∧
      decode ⟨0x0500#16, noOps⟩ = .instr (.flush noOps) := by decide

theorem witness_PlacedTableWordRunsNext :
    State.reset.mode = .idle ∧ decodeTableWord 16 0x1B61 = some (.devReset none none) := by decide

theorem witness_RejectedCommandWordFinishesAtOnce :
    (waiting 0xFF00#16 noOps).agenda = .block .ok :: [] ∧ (waiting 0xFF00#16 noOps).mode = .idle ∧
      (waiting 0xFF00#16 noOps).port = ⟨0xFF00#16, noOps⟩ :: [] ∧
      ([0x0000#16, 0x0600#16, 0x0F00#16, 0x1600#16, 0xFF00#16].all fun w => decide (Command.op ⟨w, noOps⟩ ∉
        [0x01#8, 0x02#8, 0x03#8, 0x04#8, 0x05#8, 0x10#8, 0x11#8, 0x12#8, 0x13#8, 0x14#8, 0x15#8])) = true ∧
      ([0x1000#16, 0x1004#16, 0x11FF#16].all fun w => decide (Command.op ⟨w, noOps⟩ ∈ [0x10#8, 0x11#8] ∧
        Command.arg ⟨w, noOps⟩ ∉ [0x01#8, 0x02#8, 0x03#8])) = true ∧
      ([0x0101#16, 0x05FF#16, 0x1201#16, 0x15FF#16].all fun w => decide (Command.op ⟨w, noOps⟩ ∈
        [0x01#8, 0x02#8, 0x03#8, 0x04#8, 0x05#8, 0x12#8, 0x13#8, 0x14#8, 0x15#8] ∧
        Command.arg ⟨w, noOps⟩ ≠ 0x00#8)) = true := by decide

theorem witness_CommandIsHeldWhileBusy :
    sending.mode ≠ .idle ∧ (nextOf (step { sending with agenda := [.block .fail] })).isSome = true ∧
      (presentNext ⟨0x0500#16, noOps⟩ receiving).mode ≠ .idle ∧
      step (presentNext ⟨0x0500#16, noOps⟩ receiving) = .next { receiving with port := [⟨0x0500#16, noOps⟩] } := by
  exact ⟨by decide, by decide, by decide, rfl⟩

theorem witness_DecodeOfEncodeIsTheInstruction :
    (Instr.erase (some [0x07#8]) none).wellFormed = true ∧ (Instr.send (opsA [0x1B#8, 0x60#8])).canonical = true := by
  decide

theorem witness_EncodeOfDecodedIsTheCommand :
    decode ⟨0x0300#16, opsA [0x1B#8, 0x6C#8]⟩ = .instr (.getLeadingZero none none) := by decide

theorem witness_FrameStoresPacketsAndCount :
    (bounded (some 10) none none).mode = .idle ∧
      Safety.within (bounded (some 10) none none).params.maxPayload ((opsA (many 10 0x00#8)).a.getD []).length ∧
      ¬ Safety.within (bounded (some 10) none none).params.maxPayload ((opsA (many 11 0x00#8)).a.getD []).length :=
  ⟨by decide, within_of (by decide), not_within_of (by decide)⟩

theorem witness_FrameLawsAndRoundTrip : (frame [])[0]? = some ([0xC0#8] ++ many 63 0x00#8) := by decide

theorem witness_FrameHeadersChunksAndPadding :
    ((frame (many 63 0xAA#8)).length = 1 ∧ (frame (many 63 0xAA#8))[0]? = some ([0xFF#8] ++ many 63 0xAA#8)) ∧
      (frame (many 127 0xAA#8)).length = 3 ∧ (frame (many 127 0xAA#8))[0]? = some ([0xBF#8] ++ many 63 0xAA#8) ∧
      (frame (many 127 0xAA#8))[1]? = some ([0x3F#8] ++ many 63 0xAA#8) ∧
      (frame (many 127 0xAA#8))[2]? = some ([0x41#8, 0xAA#8] ++ many 62 0x00#8) := by decide +kernel

theorem witness_UnframeYieldsFragmentAndLastFlag :
    idle.mode = .idle ∧ (0x3F#8).toNat % 64 ≤ (many 63 0x00#8).length ∧ (many 62 0x00#8).length < (0x3F#8).toNat % 64 ∧
      (opsA (0x3F#8 :: many 63 0x00#8)).a = some (0x3F#8 :: many 63 0x00#8) ∧
      (opsA (0x3F#8 :: many 62 0x00#8)).a = some (0x3F#8 :: many 62 0x00#8) ∧ noOps.a = none ∧ (opsA []).a = some [] := by
  decide

theorem witness_SendAcceptanceFramesTheMessage :
    (bounded (some 10) none none).mode = .idle ∧ ((opsA [0x1B#8]).a.getD []).length = 1 ∧
      ((opsA [0x1B#8, 0x77#8]).a.getD []).length = 2 ∧
      Safety.within (bounded (some 10) none none).params.maxPayload ([0x1B#8, 0x77#8] ++ many 8 0x00#8).length ∧
      ¬ Safety.within (bounded (some 10) none none).params.maxPayload ([0x1B#8, 0x77#8] ++ many 9 0x00#8).length ∧
      (noOps.a.getD []).length ≠ 1 ∧ (noOps.a.getD []).length ≠ 2 ∧
      ((opsA [0x1B#8, 0x61#8, 0x00#8]).a.getD []).length ≠ 2 :=
  ⟨by decide, by decide, by decide, within_of (by decide), not_within_of (by decide), by decide, by decide, by decide⟩

/-- The device statements' hypotheses, at MAX_PAYLOAD and one byte above it. -/
theorem witness_DeviceQueriesAndLedsAreSent :
    (bounded (some 2) none none).mode = .idle ∧
      (Instr.readIso none none, 0x72#8) ∈ [(Instr.devReset none none, 0x61#8), (.readIso none none, 0x72#8)] ∧
      Safety.within (bounded (some 2) none none).params.maxPayload (2 + ((none : Operand).getD []).length) ∧
      ¬ Safety.within (bounded (some 2) none none).params.maxPayload (2 + ((some [0x00#8] : Operand).getD []).length) :=
  ⟨by decide, by decide, within_of (by decide), not_within_of (by decide)⟩

theorem witness_DeviceWritesAndSettingsAreSent :
    (bounded (some 3) none none).mode = .idle ∧
      Safety.within (bounded (some 3) none none).params.maxPayload (2 + ((some [0x07#8] : Operand).getD []).length) ∧
      ¬ Safety.within (bounded (some 3) none none).params.maxPayload
        (2 + ((some [0x01#8, 0x01#8] : Operand).getD []).length) :=
  ⟨by decide, within_of (by decide), not_within_of (by decide)⟩

theorem witness_TransmitStepEmitsOneReport :
    sending.mode = .tx ∧ sending.txPkts[sending.txIdx]? = some ([0x41#8, 0xBB#8] ++ many 62 0x00#8) ∧
      sending.txIdx + 1 = sending.txPkts.length ∧
      ({ sending with txIdx := 0, agenda := [.block .ok] } : State).txPkts[0]? = some ([0xBF#8] ++ many 63 0xAA#8) ∧
      0 + 1 ≠ sending.txPkts.length := by decide

/-- A message of 64 bytes, two reports. -/
def msg64 : Operands := ⟨some [0x1B#8, 0x77#8], some (many 62 0xAA#8), none⟩

theorem witness_SendDeliversEveryReport :
    ({ idle with agenda := List.replicate 2 (.block .ok) ++ [] } : State).mode = .idle ∧
      (msg64.a.getD []).length = 2 ∧ Safety.within idle.params.maxPayload (msg64.a.getD [] ++ msg64.b.getD []).length ∧
      (frame (msg64.a.getD [] ++ msg64.b.getD [])).length = 2 :=
  ⟨by decide, by decide, within_of (by decide), by decide⟩

theorem witness_SendStopsAtTheFirstFailure :
    0 < (frame (msg64.a.getD [] ++ msg64.b.getD [])).length ∧ 1 < (frame (msg64.a.getD [] ++ msg64.b.getD [])).length ∧
      ({ idle with agenda := [.block .fail] } : State).agenda = List.replicate 0 (.block .ok) ++ .block .fail :: [] ∧
      ({ idle with agenda := [.block .ok, .block .fail] } : State).agenda =
        List.replicate 1 (.block .ok) ++ .block .fail :: [] := by decide

theorem witness_idle : idle.mode = .idle := by decide

theorem witness_ReceiveStepTakesOneReport :
    receiving.mode = .rx ∧ receiving.inQ = [] ∧
      ¬ Safety.within (some 2) (receiving.rxAcc.length + (Safety.reportFragment [0x01#8, 0x43#8]).1.length) ∧
      Safety.within (some 3) (receiving.rxAcc.length + (Safety.reportFragment [0x01#8, 0x43#8]).1.length) ∧
      (Safety.reportFragment [0x01#8, 0x43#8]).2 = false ∧ (Safety.reportFragment [0x41#8, 0x43#8]).2 = true ∧
      receiving.rxAcc ++ (Safety.reportFragment [0x41#8, 0x43#8]).1 ≠ [] ∧ (Safety.reportFragment [0xC0#8]).2 = true ∧
      ({ receiving with rxAcc := [] } : State).rxAcc ++ (Safety.reportFragment [0xC0#8]).1 = [] :=
  ⟨by decide, by decide, not_within_of (by decide), within_of (by decide), by decide, by decide, by decide, by decide,
    by decide⟩

theorem witness_DeadlineEndsOnlyAReceive :
    ({ receiving with agenda := [.deadline] } : State).agenda = .deadline :: [] ∧ receiving.mode = .rx ∧
      receiving.rxAcc ≠ [] ∧ ({ receiving with rxAcc := [] } : State).rxAcc = [] ∧ sending.mode ≠ .rx := by decide

theorem witness_EnvAppendGoesToTheTail :
    (∀ cap, (bounded none none (some 1)).params.inqCap = some cap → (bounded none none (some 1)).inQ.length < cap) ∧
      (bounded none none (some 0)).params.inqCap = some 0 ∧ 0 ≤ (bounded none none (some 0)).inQ.length :=
  ⟨fun _ h => by cases h; decide, by decide, by decide⟩

/-- ENV's appends of the reports of a message, with steps of the block between. -/
def inboundMoves : List Move :=
  [.block .ok, .append ([0xBF#8] ++ many 63 0xAA#8), .block .fail, .append ([0x41#8, 0xAA#8] ++ many 62 0x00#8)]

theorem witness_ReceiveReassemblesTheMessage :
    ({ receiving with rxAcc := [] } : State).mode = .rx ∧ receiving.inQ = [] ∧ receiving.port = [] ∧
      receiving.params.rxCap = none ∧ receiving.params.inqCap = none ∧
      (∀ x ∈ inboundMoves, Safety.appendOrBlock x = true) ∧
      inboundMoves.filterMap Safety.appended = frame (many 64 0xAA#8) ∧
      [Move.append ([0xC0#8] ++ many 63 0x00#8)].filterMap Safety.appended = frame [] := by decide

theorem witness_NormalizeStripsTheSentinelRuns :
    idle.mode = .idle ∧ 0x01#8 ∈ [0x01#8, 0x02#8, 0x03#8] ∧ 0x03#8 ∈ [0x01#8, 0x02#8, 0x03#8] ∧
      0x00#8 ∉ [0x01#8, 0x02#8, 0x03#8] ∧ 0x04#8 ∉ [0x01#8, 0x02#8, 0x03#8] := by decide

theorem witness_ValidateReportsLengthThenCharset :
    (0x01#8, idle.params.maxLen1) ∈
        [(0x01#8, idle.params.maxLen1), (0x02#8, idle.params.maxLen2), (0x03#8, idle.params.maxLen3)] ∧
      idle.params.maxLen1 < (many 80 0x61#8).length ∧ (many 79 0x61#8).length ≤ idle.params.maxLen1 ∧
      (∃ x ∈ many 79 0x61#8, ¬ (0x20 ≤ x.toNat ∧ x.toNat ≤ 0x5F)) ∧
      (∀ x ∈ many 79 0x5F#8, 0x20 ≤ x.toNat ∧ x.toNat ≤ 0x5F) ∧
      ∀ x ∈ [0x30#8, 0x3F#8, 0x25#8], (0x30 ≤ x.toNat ∧ x.toNat ≤ 0x3F) ∨ x = 0x25#8 := by decide

theorem witness_DelimiterTextIsNeverValid :
    0x1B#8 ∈ ([0x41#8, 0x1B#8] : Bytes) ∧ 0x1C#8 ∈ ([0x1C#8] : Bytes) ∧
      [0x3F#8, 0x1C#8] ∈ [0x1B#8, 0x73#8] :: Safety.terminators ∧
      [0x1B#8, 0x73#8] ∈ [0x1B#8, 0x73#8] :: Safety.terminators := by decide

theorem witness_BuildRawEmitsLengthPrefixedSections :
    ((opsA (many 255 0x00#8)).a.getD []).length ≤ 255 ∧ 255 < ((opsA (many 256 0x00#8)).a.getD []).length ∧
      (noOps.b.getD []).length ≤ 255 ∧ (noOps.c.getD []).length ≤ 255 := by decide +kernel

theorem witness_SlicesOfTracksNeverOverlap :
    Track.t1 ≠ .t2 ∧ sliceBounds [0x1B#8, 0x02#8, 0x58#8, 0x1B#8, 0x01#8, 0x59#8, 0x3F#8, 0x1C#8] .t1 = some (5, 6) ∧
      sliceBounds [0x1B#8, 0x02#8, 0x58#8, 0x1B#8, 0x01#8, 0x59#8, 0x3F#8, 0x1C#8] .t2 = some (2, 3) := by decide

theorem witness_SliceRunsFromMarkerToTerminator :
    slice [0x1B#8, 0x01#8] .t1 = some [] ∧ slice [0x1B#8] .t1 = none ∧
      slice [0x1B#8, 0x01#8, 0x41#8, 0x1B#8, 0x30#8] .t1 = some [0x41#8] := by decide

theorem witness_ParseIsoReadsBackBuildIso :
    validate idle.params .t1 (norm idle.params .t1 (ascii "%john doe?")) = .none ∧
      validate idle.params .t2 (norm idle.params .t2 (ascii ";123?")) = .none ∧
      validate idle.params .t3 (norm idle.params .t3 []) = .none := by decide

theorem witness_CodecIsStateless :
    Safety.isCodec (.parseRaw noOps) ∧ idle.mode = .idle ∧
      ({ idle with inQ := [[0x01#8]], out := [[]] } : State).mode = .idle ∧
      (nextOf (exec (.parseRaw noOps) idle)).isSome = true ∧
      (nextOf (exec (.parseRaw noOps) { idle with inQ := [[0x01#8]], out := [[]] })).isSome = true := by
  exact ⟨by simp [Safety.isCodec], by decide, by decide, by decide, by decide⟩

/-- The invariant holds of a SEND in flight, so `StepKeepsTheInvariant` and `StepStopsOnlyAtAnUnreadableResult` are not
empty. -/
theorem witness_StepKeepsTheInvariant :
    Safety.Inv { sending with agenda := [.block .ok] } ∧
      (nextOf (step { sending with agenda := [.block .ok] })).isSome = true := by
  refine ⟨?_, by decide⟩
  constructor <;> simp [sending, idle, State.reset, ResultReg.reset, Latches.reset, many]

theorem witness_StepStopsOnlyAtAnUnreadableResult :
    Safety.Inv { sending with agenda := [.read .status] } ∧
      faultOf (step { sending with agenda := [.read .status] }) = some (.resultNotValid .status) := by
  refine ⟨?_, by decide⟩
  constructor <;> simp [sending, idle, State.reset, ResultReg.reset, Latches.reset, many]

/-- Steps that change the latches, IN_Q and OUT, each in a way its statement lists. -/
theorem witness_LatchesChangeOnlyAtAcceptance :
    (given idle 0x0500#16 noOps).map (fun t => (t.lat.opl, t.port)) = some (0x05#8, []) ∧
      (moved sending (.linkOpen [])).map (fun t => t.lat.opl) = some 0x00#8 ∧
      (moved idle (.present ⟨0x0500#16, .absent, .absent, .absent⟩)).map (fun t => t.port.length) = some 1 := by decide

theorem witness_InboundQueueChangesOnlyAsStated :
    (nextOf (step { receiving with inQ := [[0x00#8]], agenda := [.block .ok] })).map State.inQ = some [] ∧
      (nextOf (step { idle with agenda := [.append [0x00#8]] })).map State.inQ = some [[0x00#8]] ∧
      (nextOf (step { idle with agenda := [.linkOpen [[0x00#8]]] })).map State.inQ = some [[0x00#8]] := by decide

theorem witness_OutboundPortCarriesOnlySendReports :
    (nextOf (step { sending with agenda := [.block .ok] })).map (fun t => t.out.length) = some 1 := by decide

theorem witness_ParametersNeverChange :
    (nextOf (step { idle with agenda := [.deadline] })).isSome = true := by decide

theorem witness_LinkOpenAbandonsTheOperation :
    ({ sending with agenda := [.linkOpen [[0x00#8]]] } : State).agenda = .linkOpen [[0x00#8]] :: [] := by decide

theorem witness_HostReadsOnlyAValidResult :
    ({ idle with agenda := [.read .recs] } : State).agenda = .read .recs :: [] ∧
      (gave false .illegalOperation [] []).valid = true ∧ (sending.mode, 0x01#8) ∈ Safety.modeTable ∧
      ((gave false .illegalOperation [] []).status, 0x13#8) ∈ Safety.statusTable ∧
      ((gave true .ok [] []).err, 0x00#8) ∈ Safety.trackErrTable ∧ ReadSel.op ≠ .mode ∧ ReadSel.op ≠ .valid ∧
      idle.res.valid = false := by decide

theorem witness_HostPresentsTheLine :
    ({ idle with agenda := [.present (devLine .writeIso .res)] } : State).agenda =
        .present (devLine .writeIso .res) :: [] ∧
      idle.res.valid = false ∧ (devLine .writeIso .res).b = .res ∧ (devLine .erase (.bytes [0x05#8])).a ≠ .res ∧
      (devLine .erase (.bytes [0x05#8])).b ≠ .res ∧ (devLine .erase (.bytes [0x05#8])).c ≠ .res := by decide

theorem witness_ClassifyIsPermissive :
    ([0x1B#8] : Bytes).length = 1 ∧
      [0x1B#8, 0x63#8] ∈ [[0x1B#8, 0x72#8], [0x1B#8, 0x6D#8], [0x1B#8, 0x77#8], [0x1B#8, 0x6E#8], [0x1B#8, 0x63#8]] ∧
      [0x1B#8, 0x61#8] ∉ [[0x1B#8, 0x72#8], [0x1B#8, 0x6D#8], [0x1B#8, 0x77#8], [0x1B#8, 0x6E#8], [0x1B#8, 0x63#8]] := by
  decide

/-- A match, a text that differs and a track without a record. -/
theorem witness_CompareListsEveryMismatch :
    (Track.t1, some (ascii "a")) ∈ [(Track.t1, some (ascii "a")), (.t2, some (ascii "1")), (.t3, some [])] ∧
      Safety.firstData .t1 [⟨.t1, ascii "A", true, .none⟩, ⟨.t2, ascii "2", true, .none⟩] =
        .bytes (norm Config.defaultParams .t1 (ascii "a")) ∧
      Safety.firstData .t2 [⟨.t1, ascii "A", true, .none⟩, ⟨.t2, ascii "2", true, .none⟩] ≠
        .bytes (norm Config.defaultParams .t2 (ascii "1")) ∧
      Safety.firstData .t3 [⟨.t1, ascii "A", true, .none⟩, ⟨.t2, ascii "2", true, .none⟩] ≠
        .bytes (norm Config.defaultParams .t3 []) := by decide

theorem witness_UniformResultIsTheResultRegister :
    (gave true .ok [0x41#8] []).ok = true ∧ (gave false .timeout [] []).ok = false := by decide

theorem witness_ReadIsoOutcomeFollowsTheResults :
    (gave false .communicationError [] []).ok = false ∧ (gave true .ok [] []).ok = true ∧
      2 ≤ (gave true .ok [0x1B#8, 0x31#8] []).bytes.length ∧ (gave true .ok [0x1B#8] []).bytes.length = 1 ∧
      (gave true .ok [] []).bytes = [] := by decide

theorem witness_CopyAndCompareReadFirst :
    (gave false .communicationError [] []).ok = false ∧ (gave true .ok [] []).ok = true ∧
      classify [0x1B#8, 0x72#8] (responseOf (gave false .timeout [] [])) = .fail .noCardSwipe ∧
      classify [0x1B#8, 0x72#8] (responseOf (gave true .ok [0x41#8, 0x42#8] [])) = .success := by decide

/-- A state in which HOST has read the response of a read (ISO) and goes on to parse it. -/
def parsing : State :=
  { idle with agenda := [.present parseIsoLine, .block .ok], res := gave true .ok [0x1B#8, 0x01#8, 0x41#8] [] }

theorem witness_ParsingTheResponseCompletesTheRead :
    parsing.agenda = .present parseIsoLine :: .block .ok :: [] ∧ parsing.mode = .idle ∧ parsing.port = [] ∧
      parsing.res.valid = true := by decide

/-- The state after a reserved OP, and the one after a FLUSH. -/
theorem witness_ResultOpIsACodeUnlessIllegal :
    Safety.Inv { idle with
        lat := { Latches.reset with opl := 0xFF#8 }, res := Safety.neutralResult 0xFF#8 .illegalOperation false } ∧
      Safety.Inv { idle with lat := { Latches.reset with opl := 0x05#8 }, res := Safety.okResult 0x05#8 } := by
  constructor <;> constructor <;>
    simp [idle, State.reset, Latches.reset, Safety.neutralResult, Safety.okResult, Safety.statusAllowed, OpCode.ofByte] <;>
    constructor <;> simp

end Sys2Proof.Tests
end

