-- ==== Sys2Proof/Proofs/Parameters.lean ====
section
/-! PROOFS. What an operation's rule, BLOCK's acceptance and BLOCK's step can do, said once, and from it that no step
changes the parameters (00_scope.md R8; log 8). -/

namespace Sys2Proof.Machine

/-! ### What BLOCK's moves can do -/

/-- Everything SEND's rule can do: refuse its operands, or start to transmit (R110). -/
theorem performSend_cases (s : State) :
    performSend s = finish .invalidFormat {} s ∨
    performSend s = { s with txPkts := frame (s.lat.a ++ s.lat.b), txIdx := 0, mode := .tx } := by
  unfold performSend
  split
  · split
    · exact .inl rfl
    · exact .inr rfl
  · exact .inl rfl

/-- Everything an operation's rule can do: finish at once, or SEND's, RECEIVE's and FLUSH's own effect
(40_packetizer.md R110, R115, R122). -/
theorem performOf_cases (o : OpCode) (s : State) :
    (∃ st f, performOf o s = finish st f s) ∨
    (o = .send ∧ performOf o s = { s with txPkts := frame (s.lat.a ++ s.lat.b), txIdx := 0, mode := .tx }) ∨
    (o = .receive ∧ performOf o s = performReceive s) ∨
    (o = .flush ∧ performOf o s = performFlush s) := by
  cases o with
  | frame =>
    simp only [performOf, performFrame]
    split <;> exact .inl ⟨_, _, rfl⟩
  | unframe =>
    simp only [performOf, performUnframe]
    split <;> exact .inl ⟨_, _, rfl⟩
  | send =>
    obtain h | h := performSend_cases s
    · exact .inl ⟨_, _, h⟩
    · exact .inr (.inl ⟨rfl, h⟩)
  | receive => exact .inr (.inr (.inl ⟨rfl, rfl⟩))
  | flush => exact .inr (.inr (.inr ⟨rfl, rfl⟩))
  | normalize =>
    simp only [performOf, performNormalize]
    split <;> exact .inl ⟨_, _, rfl⟩
  | validate =>
    simp only [performOf, performValidate]
    split <;> exact .inl ⟨_, _, rfl⟩
  | buildIso => exact .inl ⟨_, _, rfl⟩
  | buildRaw =>
    simp only [performOf, performBuildRaw]
    split <;> exact .inl ⟨_, _, rfl⟩
  | parseIso => exact .inl ⟨_, _, rfl⟩
  | parseRaw => exact .inl ⟨_, _, rfl⟩

/-- Everything BLOCK's acceptance step can do: wait on an empty port, or take the port's head and run the instruction it
is or reject it (R84, R102). -/
theorem acceptStep_cases {s t : State} (h : acceptStep s = .next t) :
    (s.port = [] ∧ t = s) ∨
    ∃ c rest, s.port = c :: rest ∧
      ((∃ i, decode c = .instr i ∧ exec i { s with port := rest } = .next t) ∨
       (∃ op, decode c = .reservedOp op ∧
          acceptRejected op c.arg c.ops .illegalOperation { s with port := rest } = .next t) ∨
       (∃ op arg, decode c = .illegalArg op arg ∧
          acceptRejected op arg c.ops .invalidFormat { s with port := rest } = .next t)) := by
  unfold acceptStep at h
  split at h
  · rename_i hp
    cases h
    exact .inl ⟨hp, rfl⟩
  · rename_i c rest hp
    refine .inr ⟨c, rest, hp, ?_⟩
    split at h
    · rename_i i hd
      exact .inl ⟨i, hd, h⟩
    · rename_i op hd
      exact .inr (.inl ⟨op, hd, h⟩)
    · rename_i op arg hd
      exact .inr (.inr ⟨op, arg, hd, h⟩)

/-- Everything BLOCK's step can do: the step of its MODE (R101, R111, R116). -/
theorem blockStep_cases {ans : EmitAnswer} {s t : State} (h : blockStep ans s = .next t) :
    (s.mode = .idle ∧ acceptStep s = .next t) ∨ (s.mode = .tx ∧ txStep ans s = .next t) ∨
    (s.mode = .rx ∧ rxStep s = .next t) := by
  unfold blockStep at h
  split at h <;> simp_all

/-! ### Each of them leaves the parameters -/

@[simp] theorem performOf_params (o : OpCode) (s : State) : (performOf o s).params = s.params := by
  obtain ⟨st, f, h⟩ | ⟨-, h⟩ | ⟨-, h⟩ | ⟨-, h⟩ := performOf_cases o s <;> simp [h]

@[simp] theorem completeRx_params (acc : Bytes) (last : Bool) (s : State) :
    (completeRx acc last s).params = s.params := by
  obtain ⟨-, h⟩ | ⟨-, -, h⟩ | ⟨-, -, h⟩ := completeRx_cases acc last s <;> simp [h]

@[simp] theorem rxReport_params (r : Bytes) (s : State) : (rxReport r s).params = s.params := by
  obtain ⟨-, h⟩ | ⟨-, -, h⟩ | ⟨-, -, h⟩ := rxReport_cases r s <;> simp [h]

@[simp] theorem deadline_params (s : State) : (deadline s).params = s.params := by
  obtain ⟨-, h⟩ | ⟨-, h⟩ := deadline_cases s <;> simp [h]

@[simp] theorem envAppend_params (r : Bytes) (s : State) : (envAppend r s).params = s.params := by
  obtain ⟨-, h⟩ | ⟨-, h⟩ := envAppend_cases r s <;> simp [h]

@[simp] theorem nextMove_params (s : State) : (nextMove s).2.params = s.params := by
  obtain ⟨m, ms, -, h⟩ | ⟨-, h⟩ := nextMove_cases s <;> simp [h]

theorem exec_params {i : Instr} {s t : State} (h : exec i s = .next t) : t.params = s.params := by
  obtain ⟨-, rfl⟩ | ⟨-, -, rfl⟩ | ⟨-, -, rfl⟩ := exec_cases h <;> simp

theorem acceptRejected_params {op arg : Byte} {ops : Operands} {st : Status} {s t : State}
    (h : acceptRejected op arg ops st s = .next t) : t.params = s.params := by
  obtain ⟨-, rfl⟩ | ⟨-, rfl⟩ := acceptRejected_cases h <;> simp

theorem acceptStep_params {s t : State} (h : acceptStep s = .next t) : t.params = s.params := by
  obtain ⟨-, rfl⟩ | ⟨c, rest, -, ⟨i, -, hi⟩ | ⟨op, -, hr⟩ | ⟨op, arg, -, hr⟩⟩ := acceptStep_cases h
  · rfl
  · exact exec_params (s := { s with port := rest }) hi
  · exact acceptRejected_params (s := { s with port := rest }) hr
  · exact acceptRejected_params (s := { s with port := rest }) hr

theorem txStep_params {ans : EmitAnswer} {s t : State} (h : txStep ans s = .next t) : t.params = s.params := by
  obtain ⟨r, -, ⟨-, rfl⟩ | ⟨-, -, rfl⟩ | ⟨-, -, rfl⟩⟩ := txStep_cases h <;> simp

theorem rxStep_params {s t : State} (h : rxStep s = .next t) : t.params = s.params := by
  obtain ⟨-, rfl⟩ | ⟨r, q, -, rfl⟩ := rxStep_cases h <;> simp

theorem blockStep_params {ans : EmitAnswer} {s t : State} (h : blockStep ans s = .next t) :
    t.params = s.params := by
  obtain ⟨-, ha⟩ | ⟨-, ht⟩ | ⟨-, hr⟩ := blockStep_cases h
  · exact acceptStep_params ha
  · exact txStep_params ht
  · exact rxStep_params hr

theorem hostRead_params {sel : ReadSel} {s t : State} (h : hostRead sel s = .next t) : t.params = s.params := by
  obtain ⟨-, hn⟩ | ⟨-, -, hf⟩ := hostRead_cases (sel := sel) (s := s)
  · cases hn.symm.trans h; rfl
  · cases hf.symm.trans h

theorem hostPresent_params {line : HostCommand} {s t : State} (h : hostPresent line s = .next t) :
    t.params = s.params := by
  obtain ⟨c, -, hn⟩ | ⟨-, hf⟩ := hostPresent_cases (line := line) (s := s)
  · cases hn.symm.trans h; rfl
  · cases hf.symm.trans h

/-- No move of any agent changes the parameters. -/
theorem agentStep_params {m : Move} {s t : State} (h : agentStep m s = .next t) : t.params = s.params := by
  cases m with
  | present line => exact hostPresent_params h
  | read sel => exact hostRead_params h
  | append r => cases h; exact envAppend_params r s
  | deadline => cases h; exact deadline_params s
  | block ans => exact blockStep_params h
  | linkOpen q => cases h; exact linkOpen_params q s

/-- Settles O44: a step draws the next move, then an agent makes it, and neither changes the parameters. -/
theorem parametersNeverChange : Obligations.ParametersNeverChange := by
  intro s t h
  calc t.params = (nextMove s).2.params := agentStep_params h
    _ = s.params := nextMove_params s

end Sys2Proof.Machine
end

section
/-! PROOFS. What the decoder answers on any command, and from it what BLOCK's acceptance does with the command at the
head of the port, in terms of the 11 operations (30_encoding.md R80-R84; 40_packetizer.md R102). -/

namespace Sys2Proof.Machine

/-! ### The decoder -/

/-- The instruction that a SEND's operands decode to encodes to that SEND (R180). -/
theorem encode_decodeSend (ops : Operands) : encode (decodeSend ops) = mkCommand .send 0x00#8 ops := by
  obtain ⟨a, b, c⟩ := ops
  unfold decodeSend
  split
  · rename_i e sel ha
    cases ha
    split
    · rename_i he
      split
      · rename_i d hd
        rw [encode_devCmd_instr, devCommand, he, devCmd_selector_of_ofSelector hd]
      · rfl
    · rfl
  · rfl

/-- Both answers of the decoder for an operation whose ARG must be 0: the instruction, which encodes to the command,
or the rejection of the ARG (R82). -/
theorem withZeroArg_cases {c : Command} {o : OpCode} {i : Instr} (ho : OpCode.ofByte c.op = some o)
    (he : encode i = mkCommand o 0x00#8 c.ops) :
    (∃ j, withZeroArg c i = .instr j ∧ encode j = c) ∨ withZeroArg c i = .illegalArg c.op c.arg := by
  unfold withZeroArg
  split
  · rename_i harg
    refine .inl ⟨i, rfl, ?_⟩
    rw [he, ← harg, mkCommand_of_ofByte ho]
  · exact .inr rfl

/-- Everything the decoder can answer: it rejects a reserved OP; for an operation it gives an instruction that encodes
to the very command, or rejects the ARG (R84). -/
theorem decode_cases (c : Command) :
    (OpCode.ofByte c.op = none ∧ decode c = .reservedOp c.op) ∨
    ∃ o, OpCode.ofByte c.op = some o ∧
      ((∃ i, decode c = .instr i ∧ encode i = c) ∨ decode c = .illegalArg c.op c.arg) := by
  unfold decode
  cases ho : OpCode.ofByte c.op with
  | none => exact .inl ⟨rfl, rfl⟩
  | some o =>
    refine .inr ⟨o, rfl, ?_⟩
    cases o
    case normalize => exact .inl ⟨_, rfl, mkCommand_of_ofByte ho⟩
    case validate => exact .inl ⟨_, rfl, mkCommand_of_ofByte ho⟩
    case send => exact withZeroArg_cases ho (encode_decodeSend c.ops)
    all_goals exact withZeroArg_cases ho rfl

/-- An instruction that the decoder reads encodes to the command it was read from. -/
theorem encode_of_decode {c : Command} {i : Instr} (h : decode c = .instr i) : encode i = c := by
  obtain ⟨-, hr⟩ | ⟨o, -, ⟨j, hj, he⟩ | ha⟩ := decode_cases c
  · cases hr.symm.trans h
  · cases hj.symm.trans h; exact he
  · cases ha.symm.trans h

/-- The OP of a command that decodes is the code of the operation that carries its instruction. -/
theorem op_of_decode {c : Command} {i : Instr} (h : decode c = .instr i) : c.op = (opCodeOf i).code := by
  rw [← encode_op, encode_of_decode h]

/-- A reserved OP is the command's own, and outside R81's list. -/
theorem op_of_decode_reservedOp {c : Command} {op : Byte} (h : decode c = .reservedOp op) :
    op = c.op ∧ OpCode.ofByte c.op = none := by
  obtain ⟨ho, hr⟩ | ⟨o, -, ⟨j, hj, -⟩ | ha⟩ := decode_cases c
  · cases hr.symm.trans h; exact ⟨rfl, ho⟩
  · cases hj.symm.trans h
  · cases ha.symm.trans h

/-- A rejected ARG is the command's own, under an OP of R81's list. -/
theorem op_arg_of_decode_illegalArg {c : Command} {op arg : Byte} (h : decode c = .illegalArg op arg) :
    op = c.op ∧ arg = c.arg ∧ ∃ o, OpCode.ofByte c.op = some o := by
  obtain ⟨-, hr⟩ | ⟨o, ho, ⟨j, hj, -⟩ | ha⟩ := decode_cases c
  · cases hr.symm.trans h
  · cases hj.symm.trans h
  · cases ha.symm.trans h; exact ⟨rfl, rfl, o, ho⟩

/-! ### Acceptance -/

/-- The state in which an operation's rule runs: the command `c` is taken from the port, of which `rest` is left, and
latched (R102). -/
abbrev accepting (c : Command) (rest : List Command) (s : State) : State :=
  latch c.op c.arg c.ops { s with port := rest }

/-- Everything BLOCK's acceptance step can do in IDLE: wait, or latch the command at the head of the port and reject its
OP, refuse its operands, or perform its operation (R84, R102). -/
theorem acceptStep_idle_cases {s t : State} (hm : s.mode = .idle) (h : acceptStep s = .next t) :
    (s.port = [] ∧ t = s) ∨
    ∃ c rest, s.port = c :: rest ∧
      ((OpCode.ofByte c.op = none ∧ t = finish .illegalOperation {} (accepting c rest s)) ∨
       ∃ o, OpCode.ofByte c.op = some o ∧
        (t = finish .invalidFormat {} (accepting c rest s) ∨ t = performOf o (accepting c rest s))) := by
  obtain hw | ⟨c, rest, hp, ⟨i, hd, hi⟩ | ⟨op, hd, hr⟩ | ⟨op, arg, hd, hr⟩⟩ := acceptStep_cases h
  · exact .inl hw
  · have hop := op_of_decode hd
    have ho : OpCode.ofByte c.op = some (opCodeOf i) := by rw [hop, opCode_ofByte_code]
    refine .inr ⟨c, rest, hp, .inr ⟨opCodeOf i, ho, ?_⟩⟩
    obtain ⟨hbusy, -⟩ | ⟨-, -, ht⟩ | ⟨-, -, ht⟩ := exec_cases hi
    · exact absurd hm hbusy
    · exact .inl (by rw [ht, ← hop, encode_of_decode hd])
    · exact .inr (by rw [ht, ← hop, encode_of_decode hd])
  · obtain ⟨rfl, ho⟩ := op_of_decode_reservedOp hd
    obtain ⟨hbusy, -⟩ | ⟨-, ht⟩ := acceptRejected_cases hr
    · exact absurd hm hbusy
    · exact .inr ⟨c, rest, hp, .inl ⟨ho, ht⟩⟩
  · obtain ⟨rfl, rfl, o, ho⟩ := op_arg_of_decode_illegalArg hd
    obtain ⟨hbusy, -⟩ | ⟨-, ht⟩ := acceptRejected_cases hr
    · exact absurd hm hbusy
    · exact .inr ⟨c, rest, hp, .inr ⟨o, ho, .inl ht⟩⟩

/-! ### HOST's moves that go through -/

/-- A read that answers a next state changes only what HOST saw (R56). -/
theorem hostRead_next {sel : ReadSel} {s t : State} (h : hostRead sel s = .next t) :
    t = { s with seen := some (readValue sel s) } := by
  obtain ⟨-, hn⟩ | ⟨-, -, hf⟩ := hostRead_cases (sel := sel) (s := s)
  · cases hn.symm.trans h; rfl
  · cases hf.symm.trans h

/-- A presenting that answers a next state changes only the port, which takes one command at its end (R101). -/
theorem hostPresent_next {line : HostCommand} {s t : State} (h : hostPresent line s = .next t) :
    ∃ c, t = { s with port := s.port ++ [c] } := by
  obtain ⟨c, -, hn⟩ | ⟨-, hf⟩ := hostPresent_cases (line := line) (s := s)
  · cases hn.symm.trans h; exact ⟨c, rfl⟩
  · cases hf.symm.trans h

end Sys2Proof.Machine
end

section
/-! PROOFS. What the steps of the agents leave of the latches, the port and IN_Q, and from it that the latches change
only at an acceptance (10_state.md R22) and IN_Q only as R26 lists. -/

namespace Sys2Proof.Machine

/-! ### What each operation leaves -/

@[simp] theorem nextMove_mode (s : State) : (nextMove s).2.mode = s.mode := by
  obtain ⟨m, ms, -, h⟩ | ⟨-, h⟩ := nextMove_cases s <;> simp [h]

@[simp] theorem nextMove_lat (s : State) : (nextMove s).2.lat = s.lat := by
  obtain ⟨m, ms, -, h⟩ | ⟨-, h⟩ := nextMove_cases s <;> simp [h]

@[simp] theorem nextMove_port (s : State) : (nextMove s).2.port = s.port := by
  obtain ⟨m, ms, -, h⟩ | ⟨-, h⟩ := nextMove_cases s <;> simp [h]

@[simp] theorem nextMove_inQ (s : State) : (nextMove s).2.inQ = s.inQ := by
  obtain ⟨m, ms, -, h⟩ | ⟨-, h⟩ := nextMove_cases s <;> simp [h]

@[simp] theorem performOf_lat (o : OpCode) (s : State) : (performOf o s).lat = s.lat := by
  obtain ⟨st, f, h⟩ | ⟨-, h⟩ | ⟨-, h⟩ | ⟨-, h⟩ := performOf_cases o s <;> simp [h]

@[simp] theorem performOf_port (o : OpCode) (s : State) : (performOf o s).port = s.port := by
  obtain ⟨st, f, h⟩ | ⟨-, h⟩ | ⟨-, h⟩ | ⟨-, h⟩ := performOf_cases o s <;> simp [h]

/-- No operation but FLUSH touches IN_Q. -/
theorem performOf_inQ {o : OpCode} (ho : o ≠ .flush) (s : State) : (performOf o s).inQ = s.inQ := by
  obtain ⟨st, f, h⟩ | ⟨-, h⟩ | ⟨-, h⟩ | ⟨hf, -⟩ := performOf_cases o s
  · simp [h]
  · simp [h]
  · simp [h]
  · exact absurd hf ho

@[simp] theorem completeRx_lat (acc : Bytes) (last : Bool) (s : State) : (completeRx acc last s).lat = s.lat := by
  obtain ⟨-, h⟩ | ⟨-, -, h⟩ | ⟨-, -, h⟩ := completeRx_cases acc last s <;> simp [h]

@[simp] theorem completeRx_port (acc : Bytes) (last : Bool) (s : State) : (completeRx acc last s).port = s.port := by
  obtain ⟨-, h⟩ | ⟨-, -, h⟩ | ⟨-, -, h⟩ := completeRx_cases acc last s <;> simp [h]

@[simp] theorem completeRx_inQ (acc : Bytes) (last : Bool) (s : State) : (completeRx acc last s).inQ = s.inQ := by
  obtain ⟨-, h⟩ | ⟨-, -, h⟩ | ⟨-, -, h⟩ := completeRx_cases acc last s <;> simp [h]

@[simp] theorem rxReport_lat (r : Bytes) (s : State) : (rxReport r s).lat = s.lat := by
  obtain ⟨-, h⟩ | ⟨-, -, h⟩ | ⟨-, -, h⟩ := rxReport_cases r s <;> simp [h]

@[simp] theorem rxReport_port (r : Bytes) (s : State) : (rxReport r s).port = s.port := by
  obtain ⟨-, h⟩ | ⟨-, -, h⟩ | ⟨-, -, h⟩ := rxReport_cases r s <;> simp [h]

@[simp] theorem rxReport_inQ (r : Bytes) (s : State) : (rxReport r s).inQ = s.inQ := by
  obtain ⟨-, h⟩ | ⟨-, -, h⟩ | ⟨-, -, h⟩ := rxReport_cases r s <;> simp [h]

@[simp] theorem deadline_lat (s : State) : (deadline s).lat = s.lat := by
  obtain ⟨-, h⟩ | ⟨-, h⟩ := deadline_cases s <;> simp [h]

@[simp] theorem deadline_port (s : State) : (deadline s).port = s.port := by
  obtain ⟨-, h⟩ | ⟨-, h⟩ := deadline_cases s <;> simp [h]

@[simp] theorem deadline_inQ (s : State) : (deadline s).inQ = s.inQ := by
  obtain ⟨-, h⟩ | ⟨-, h⟩ := deadline_cases s <;> simp [h]

@[simp] theorem envAppend_lat (r : Bytes) (s : State) : (envAppend r s).lat = s.lat := by
  obtain ⟨-, h⟩ | ⟨-, h⟩ := envAppend_cases r s <;> simp [h]

@[simp] theorem envAppend_port (r : Bytes) (s : State) : (envAppend r s).port = s.port := by
  obtain ⟨-, h⟩ | ⟨-, h⟩ := envAppend_cases r s <;> simp [h]

theorem txStep_lat {ans : EmitAnswer} {s t : State} (h : txStep ans s = .next t) : t.lat = s.lat := by
  obtain ⟨r, -, ⟨-, rfl⟩ | ⟨-, -, rfl⟩ | ⟨-, -, rfl⟩⟩ := txStep_cases h <;> simp

theorem txStep_port {ans : EmitAnswer} {s t : State} (h : txStep ans s = .next t) : t.port = s.port := by
  obtain ⟨r, -, ⟨-, rfl⟩ | ⟨-, -, rfl⟩ | ⟨-, -, rfl⟩⟩ := txStep_cases h <;> simp

theorem txStep_inQ {ans : EmitAnswer} {s t : State} (h : txStep ans s = .next t) : t.inQ = s.inQ := by
  obtain ⟨r, -, ⟨-, rfl⟩ | ⟨-, -, rfl⟩ | ⟨-, -, rfl⟩⟩ := txStep_cases h <;> simp

theorem rxStep_lat {s t : State} (h : rxStep s = .next t) : t.lat = s.lat := by
  obtain ⟨-, rfl⟩ | ⟨r, q, -, rfl⟩ := rxStep_cases h <;> simp

theorem rxStep_port {s t : State} (h : rxStep s = .next t) : t.port = s.port := by
  obtain ⟨-, rfl⟩ | ⟨r, q, -, rfl⟩ := rxStep_cases h <;> simp

/-- RECEIVE's step leaves IN_Q alone or takes its head (R116). -/
theorem rxStep_inQ {s t : State} (h : rxStep s = .next t) : t.inQ = s.inQ ∨ ∃ r, s.inQ = r :: t.inQ := by
  obtain ⟨-, rfl⟩ | ⟨r, q, hq, rfl⟩ := rxStep_cases h
  · exact .inl rfl
  · exact .inr ⟨r, by simpa using hq⟩

/-! ### The latches -/

/-- A step that keeps the latches, and every command on the port in its place (R101). -/
def HoldsCommands (s t : State) : Prop := t.lat = s.lat ∧ s.port <+: t.port

theorem holdsCommands_of_eq {s t : State} (hl : t.lat = s.lat) (hp : t.port = s.port) : HoldsCommands s t :=
  ⟨hl, hp ▸ List.prefix_rfl⟩

/-- A step that takes the head of the port in IDLE and latches exactly it (R102). -/
def LatchesHead (s t : State) : Prop :=
  s.mode = .idle ∧ ∃ c rest, s.port = c :: rest ∧ t.port = rest ∧ t.lat = Safety.latched c.op c.arg c.ops

/-- However the accepted command ends, its acceptance latches exactly it. -/
theorem acceptStep_latches {s t : State} (hm : s.mode = .idle) (h : acceptStep s = .next t) :
    HoldsCommands s t ∨ LatchesHead s t := by
  obtain ⟨-, rfl⟩ | ⟨c, rest, hp, ⟨-, rfl⟩ | ⟨o, -, rfl | rfl⟩⟩ := acceptStep_idle_cases hm h
  · exact .inl (holdsCommands_of_eq rfl rfl)
  all_goals exact .inr ⟨hm, c, rest, hp, by simp, by simp [captured_eq_latched]⟩

theorem blockStep_latches {ans : EmitAnswer} {s t : State} (h : blockStep ans s = .next t) :
    HoldsCommands s t ∨ LatchesHead s t := by
  obtain ⟨hm, ha⟩ | ⟨-, ht⟩ | ⟨-, hr⟩ := blockStep_cases h
  · exact acceptStep_latches hm ha
  · exact .inl (holdsCommands_of_eq (txStep_lat ht) (txStep_port ht))
  · exact .inl (holdsCommands_of_eq (rxStep_lat hr) (rxStep_port hr))

/-- Only BLOCK's acceptance and the opening of the Link touch the latches. -/
theorem agentStep_latches {m : Move} {s t : State} (h : agentStep m s = .next t) :
    HoldsCommands s t ∨ LatchesHead s t ∨ ∃ q, m = .linkOpen q := by
  cases m with
  | present line =>
    obtain ⟨c, rfl⟩ := hostPresent_next h
    exact .inl ⟨rfl, List.prefix_append _ _⟩
  | read sel =>
    obtain rfl := hostRead_next h
    exact .inl (holdsCommands_of_eq rfl rfl)
  | append r => cases h; exact .inl (holdsCommands_of_eq (envAppend_lat r s) (envAppend_port r s))
  | deadline => cases h; exact .inl (holdsCommands_of_eq (deadline_lat s) (deadline_port s))
  | block ans => exact (blockStep_latches h).imp_right .inl
  | linkOpen q => exact .inr (.inr ⟨q, rfl⟩)

/-- Settles O41: drawing the next move leaves latches and port alone, and then one agent moves. -/
theorem latchesChangeOnlyAtAcceptance : Obligations.LatchesChangeOnlyAtAcceptance := by
  intro s t h
  simpa [HoldsCommands, LatchesHead] using agentStep_latches (m := (nextMove s).1) (s := (nextMove s).2) h

/-! ### IN_Q -/

/-- A step that is a FLUSH, which empties IN_Q and counts what it discards (R122). -/
def FlushesInQ (s t : State) : Prop :=
  s.mode = .idle ∧ t.inQ = [] ∧ t.res.valid = true ∧ t.res.op = 0x05#8 ∧ t.res.count = s.inQ.length

/-- Of the commands BLOCK accepts only FLUSH touches IN_Q. -/
theorem acceptStep_inQ {s t : State} (hm : s.mode = .idle) (h : acceptStep s = .next t) :
    t.inQ = s.inQ ∨ FlushesInQ s t := by
  obtain ⟨-, rfl⟩ | ⟨c, rest, -, ⟨-, rfl⟩ | ⟨o, ho, rfl | rfl⟩⟩ := acceptStep_idle_cases hm h
  · exact .inl rfl
  · exact .inl (by simp)
  · exact .inl (by simp)
  · by_cases hf : o = .flush
    · subst hf
      have hop : c.op = 0x05#8 := opCode_code_of_ofByte ho
      exact .inr ⟨hm, by simp [performOf, hop]⟩
    · exact .inl (by simp [performOf_inQ hf])

theorem blockStep_inQ {ans : EmitAnswer} {s t : State} (h : blockStep ans s = .next t) :
    t.inQ = s.inQ ∨ (s.mode = .rx ∧ ∃ r, s.inQ = r :: t.inQ) ∨ FlushesInQ s t := by
  obtain ⟨hm, ha⟩ | ⟨-, ht⟩ | ⟨hm, hr⟩ := blockStep_cases h
  · exact (acceptStep_inQ hm ha).imp_right .inr
  · exact .inl (txStep_inQ ht)
  · exact (rxStep_inQ hr).imp_right fun hpop => .inl ⟨hm, hpop⟩

/-- Everything a move can do to IN_Q (R26). -/
theorem agentStep_inQ {m : Move} {s t : State} (h : agentStep m s = .next t) :
    t.inQ = s.inQ ∨ (∃ r, m = .append r ∧ t.inQ = s.inQ ++ [r]) ∨ (s.mode = .rx ∧ ∃ r, s.inQ = r :: t.inQ) ∨
      FlushesInQ s t ∨ m = .linkOpen t.inQ := by
  cases m with
  | present line =>
    obtain ⟨c, rfl⟩ := hostPresent_next h
    exact .inl rfl
  | read sel =>
    obtain rfl := hostRead_next h
    exact .inl rfl
  | append r =>
    cases h
    obtain ⟨-, he⟩ | ⟨-, he⟩ := envAppend_cases r s
    · exact .inr (.inl ⟨r, rfl, by rw [he]⟩)
    · exact .inl (by rw [he])
  | deadline => cases h; exact .inl (deadline_inQ s)
  | block ans =>
    obtain hk | hpop | hf := blockStep_inQ h
    · exact .inl hk
    · exact .inr (.inr (.inl hpop))
    · exact .inr (.inr (.inr (.inl hf)))
  | linkOpen q => cases h; exact .inr (.inr (.inr (.inr rfl)))

/-- Settles O42: drawing the next move leaves MODE and IN_Q alone, and then one agent moves. -/
theorem inboundQueueChangesOnlyAsStated : Obligations.InboundQueueChangesOnlyAsStated := by
  intro s t h
  simpa [FlushesInQ] using agentStep_inQ (m := (nextMove s).1) (s := (nextMove s).2) h

end Sys2Proof.Machine
end

section
/-! PROOFS. The invariant of the block: what `finish` needs to establish it, that each operation's rule and each agent's
move keeps it, and that reset has it (10_state.md R22-R40; 60_exceptions.md R231). -/

namespace Sys2Proof.Machine

/-! ### Statuses of R231's table -/

/-- Every operation may finish OK. -/
theorem statusAllowed_ok (o : OpCode) : Safety.statusAllowed o.code .ok := by
  cases o <;> simp [Safety.statusAllowed]

/-- Every operation may finish InvalidFormat. -/
theorem statusAllowed_invalidFormat (o : OpCode) : Safety.statusAllowed o.code .invalidFormat := by
  cases o <;> simp [Safety.statusAllowed]

/-- A reserved OP may finish only IllegalOperation (R84). -/
theorem statusAllowed_reserved {op : Byte} (h : OpCode.ofByte op = none) (st : Status) :
    Safety.statusAllowed op st ↔ st = .illegalOperation := by
  simp [Safety.statusAllowed, h]

/-- No operation of R81 finishes IllegalOperation (R231). -/
theorem not_statusAllowed_illegalOperation (o : OpCode) : ¬ Safety.statusAllowed o.code .illegalOperation := by
  cases o <;> simp [Safety.statusAllowed]

/-- An allowed status is IllegalOperation exactly when the OP is reserved. -/
theorem statusAllowed_illegalOperation_iff {op : Byte} {st : Status} (h : Safety.statusAllowed op st) :
    st = .illegalOperation ↔ OpCode.ofByte op = none := by
  cases ho : OpCode.ofByte op with
  | none => simpa using (statusAllowed_reserved ho st).mp h
  | some o =>
    rw [opCode_code_of_ofByte ho] at h
    have hst : st ≠ .illegalOperation := fun he => not_statusAllowed_illegalOperation o (he ▸ h)
    simpa using hst

/-! ### What `finish` needs -/

/-- A status and fields with which the operation `op` may finish: R231's status, fields neutral unless R30 defines them
for `op`, packets of 64 bytes, records valid iff without error. -/
structure LegalFinish (op : Byte) (st : Status) (f : ResultFields) : Prop where
  status : Safety.statusAllowed op st
  fields : Safety.FieldsDefined (finished op st f)
  packets : ∀ r ∈ f.pkts, r.length = 64
  records : ∀ r ∈ f.recs, (r.valid = true ↔ r.err = .none)

/-- With neutral fields only the status has to be legal. -/
theorem legalFinish_neutral {op : Byte} {st : Status} (h : Safety.statusAllowed op st) : LegalFinish op st {} where
  status := h
  fields := by constructor <;> simp
  packets := by simp
  records := by simp

/-- What the invariant says of a state with no transmission in flight, apart from MODE and the result's own meaning:
what a `finish` keeps. -/
structure AtRest (s : State) : Prop where
  txPkts : s.txPkts = []
  txIdx : s.txIdx = 0
  outReports : ∀ r ∈ s.out, r.length = 64
  resPackets : ∀ r ∈ s.res.pkts, r.length = 64
  recordsLegal : ∀ r ∈ s.res.recs, (r.valid = true ↔ r.err = .none)
  absentA : s.lat.pa = false → s.lat.a = []
  absentB : s.lat.pb = false → s.lat.b = []
  absentC : s.lat.pc = false → s.lat.c = []

/-- A state of the invariant that is not transmitting is at rest. -/
theorem atRest_of_inv {s : State} (h : Safety.Inv s) (hm : s.mode ≠ .tx) : AtRest s where
  txPkts := (h.txCleared hm).1
  txIdx := (h.txCleared hm).2
  outReports := h.outReports
  resPackets := h.resPackets
  recordsLegal := h.recordsLegal
  absentA := h.absentA
  absentB := h.absentB
  absentC := h.absentC

/-- Being at rest does not read the receive state. -/
theorem AtRest.withRx {s : State} (h : AtRest s) (acc : Bytes) (last : Bool) :
    AtRest { s with rxAcc := acc, rxLast := last } := by
  cases h; constructor <;> assumption

/-- A legal `finish` of a state at rest has the invariant (R100). -/
theorem AtRest.inv_finish {s : State} (h : AtRest s) {st : Status} {f : ResultFields}
    (hf : LegalFinish s.lat.opl st f) : Safety.Inv (finish st f s) where
  txInRange := by simp
  txCleared := fun _ => ⟨h.txPkts, h.txIdx⟩
  txReports := by simp [h.txPkts]
  outReports := h.outReports
  txIsSend := by simp
  rxIsReceive := by simp
  rxNotLast := by simp
  rxWithin := by simp
  busyInvalid := by simp
  namesCommand := by simp
  okIffStatus := by simp [statusIsOk]
  statusLegal := fun _ => hf.status
  fieldsLegal := fun _ => hf.fields
  resPackets := hf.packets
  recordsLegal := hf.records
  absentA := h.absentA
  absentB := h.absentB
  absentC := h.absentC

/-- The invariant reads neither IN_Q nor HOST's side. -/
theorem inv_withHost {s : State} (h : Safety.Inv s) (q : List Bytes) (port : List Command) (agenda : List Move)
    (tick : Nat) (seen : Option ReadValue) :
    Safety.Inv { s with inQ := q, port := port, agenda := agenda, tick := tick, seen := seen } := by
  cases h; constructor <;> assumption

/-! ### Acceptance -/

/-- Taking a command from the port and latching it in IDLE leaves the block at rest; an absent operand latches [] (R22,
R102). -/
theorem atRest_accepting {s : State} (h : AtRest s) (c : Command) (rest : List Command) :
    AtRest (accepting c rest s) where
  txPkts := h.txPkts
  txIdx := h.txIdx
  outReports := h.outReports
  resPackets := h.resPackets
  recordsLegal := h.recordsLegal
  absentA := by simp +contextual
  absentB := by simp +contextual
  absentC := by simp +contextual

/-- Every report of `frame` is 64 bytes (R70). -/
theorem length_of_mem_frame {p r : Bytes} (h : r ∈ frame p) : r.length = 64 := by
  obtain ⟨k, -, rfl⟩ := List.mem_map.mp h
  exact packet_length p k

/-- `frame` gives at least one report (R103). -/
theorem frame_length_pos (p : Bytes) : 0 < (frame p).length := by
  rw [frame_length]; exact Nat.le_max_left 1 _

/-- PARSE_ISO's records are valid iff without error (R38). -/
theorem parseIso_legal {p : Config.Params} {resp : Bytes} {r : TrackRecord} (h : r ∈ parseIso p resp) :
    r.valid = true ↔ r.err = .none := by
  obtain ⟨t, -, ht⟩ := List.mem_filterMap.mp h
  obtain ⟨sl, -, rfl⟩ := Option.map_eq_some_iff.mp ht
  exact isoRecord_valid_iff p t sl

/-- PARSE_RAW's records are valid iff without error: each is valid (R165). -/
theorem parseRaw_legal {resp : Bytes} {r : TrackRecord} (h : r ∈ parseRaw resp) : r.valid = true ↔ r.err = .none := by
  obtain ⟨t, -, ht⟩ := List.mem_filterMap.mp h
  obtain ⟨sl, -, rfl⟩ := Option.map_eq_some_iff.mp ht
  simp [rawRecord]

/-- What holds of the state in which the rule of operation `o` runs (R102): nothing is in flight, OPL is the operation's
code and no result is valid. -/
structure Accepted (o : OpCode) (s : State) : Prop where
  atRest : AtRest s
  opl : s.lat.opl = o.code
  noResult : s.res.valid = false

/-- An operation that finishes OK with legal fields. Which fields R30 defines for it is a finite fact; packets and
records need an argument only where the operation gives some. -/
theorem Accepted.inv_finish_ok {o : OpCode} {s : State} (h : Accepted o s) {f : ResultFields}
    (hp : ∀ r ∈ f.pkts, r.length = 64 := by simp)
    (hr : ∀ r ∈ f.recs, (r.valid = true ↔ r.err = .none) := by simp)
    (hf : Safety.FieldsDefined (finished o.code .ok f) := by constructor <;> simp [OpCode.code]) :
    Safety.Inv (finish .ok f s) :=
  h.atRest.inv_finish (h.opl ▸ ⟨statusAllowed_ok o, hf, hp, hr⟩)

/-- An operation that refuses its operands. -/
theorem Accepted.inv_invalidFormat {o : OpCode} {s : State} (h : Accepted o s) :
    Safety.Inv (finish .invalidFormat {} s) :=
  h.atRest.inv_finish (h.opl ▸ legalFinish_neutral (statusAllowed_invalidFormat o))

/-- An accepted operation in flight has the invariant when its transmit and receive state fits its MODE: a SEND with a
next report, or a RECEIVE within RX_CAP that has seen no last fragment (R24, R116, R119). -/
theorem Accepted.inv_inFlight {o : OpCode} {s : State} (h : Accepted o s) (m : Mode) {pkts : List Bytes} {i : Nat}
    {acc : Bytes} {last : Bool} (htx : m = .tx → o = .send ∧ i < pkts.length)
    (hcleared : m ≠ .tx → pkts = [] ∧ i = 0) (hreports : ∀ r ∈ pkts, r.length = 64)
    (hrx : m = .rx → o = .receive ∧ last = false ∧ Safety.within s.params.rxCap acc.length) :
    Safety.Inv { s with mode := m, txPkts := pkts, txIdx := i, rxAcc := acc, rxLast := last } where
  txInRange := fun hm => (htx hm).2
  txCleared := hcleared
  txReports := hreports
  outReports := h.atRest.outReports
  txIsSend := fun hm => by obtain ⟨rfl, -⟩ := htx hm; exact h.opl
  rxIsReceive := fun hm => by obtain ⟨rfl, -⟩ := hrx hm; exact h.opl
  rxNotLast := fun hm => by obtain ⟨-, hlast, -⟩ := hrx hm; exact hlast
  rxWithin := fun hm => by obtain ⟨-, -, hwithin⟩ := hrx hm; exact hwithin
  busyInvalid := fun _ => h.noResult
  namesCommand := by simp [h.noResult]
  okIffStatus := by simp [h.noResult]
  statusLegal := by simp [h.noResult]
  fieldsLegal := by simp [h.noResult]
  resPackets := h.atRest.resPackets
  recordsLegal := h.atRest.recordsLegal
  absentA := h.atRest.absentA
  absentB := h.atRest.absentB
  absentC := h.atRest.absentC

/-- SEND's start has the invariant: its first report is the next (R110). -/
theorem inv_startSend {s : State} (h : Accepted .send s) (p : Bytes) :
    Safety.Inv { s with txPkts := frame p, txIdx := 0, mode := .tx } :=
  h.inv_inFlight .tx (fun _ => ⟨rfl, frame_length_pos p⟩) (by simp) (fun _ => length_of_mem_frame) (by simp)

/-- A RECEIVE with an accumulator within RX_CAP and no last fragment seen has the invariant. -/
theorem inv_receiving {s : State} (h : Accepted .receive s) {acc : Bytes}
    (hw : Safety.within s.params.rxCap acc.length) :
    Safety.Inv { s with mode := .rx, rxAcc := acc, rxLast := false } :=
  h.inv_inFlight .rx (by simp) (fun _ => ⟨h.atRest.txPkts, h.atRest.txIdx⟩) (by simp [h.atRest.txPkts])
    (fun _ => ⟨rfl, rfl, hw⟩)

/-- RECEIVE's start has the invariant: nothing is accumulated (R115). -/
theorem inv_performReceive {s : State} (h : Accepted .receive s) : Safety.Inv (performReceive s) :=
  inv_receiving h fun k _ => Nat.zero_le k

/-- FLUSH has the invariant: its count is defined (R122). -/
theorem inv_performFlush {s : State} (h : Accepted .flush s) : Safety.Inv (performFlush s) :=
  inv_withHost (h.inv_finish_ok (f := { count := s.inQ.length })) [] s.port s.agenda s.tick s.seen

/-- Every operation's rule establishes the invariant: it finishes with fields that R30 defines for it, or it starts a
SEND or a RECEIVE. -/
theorem inv_performOf {o : OpCode} {s : State} (h : Accepted o s) : Safety.Inv (performOf o s) := by
  cases o with
  | frame =>
    simp only [performOf, performFrame]
    split
    · exact h.inv_invalidFormat
    · exact h.inv_finish_ok (hp := fun _ => length_of_mem_frame)
  | unframe =>
    simp only [performOf, performUnframe]
    split
    · exact h.inv_finish_ok
    · exact h.inv_invalidFormat
    · exact h.inv_invalidFormat
  | send =>
    simp only [performOf]
    obtain hs | hs := performSend_cases s <;> rw [hs]
    · exact h.inv_invalidFormat
    · exact inv_startSend h _
  | receive => exact inv_performReceive h
  | flush => exact inv_performFlush h
  | normalize =>
    simp only [performOf, performNormalize]
    split
    · exact h.inv_finish_ok
    · exact h.inv_invalidFormat
  | validate =>
    simp only [performOf, performValidate]
    split
    · exact h.inv_finish_ok
    · exact h.inv_invalidFormat
  | buildIso => exact h.inv_finish_ok
  | buildRaw =>
    simp only [performOf, performBuildRaw]
    split
    · exact h.inv_invalidFormat
    · exact h.inv_finish_ok
  | parseIso => exact h.inv_finish_ok (hr := fun _ => parseIso_legal)
  | parseRaw => exact h.inv_finish_ok (hr := fun _ => parseRaw_legal)

/-! ### BLOCK's steps -/

theorem acceptStep_keeps_inv {s t : State} (h : Safety.Inv s) (hm : s.mode = .idle) (ht : acceptStep s = .next t) :
    Safety.Inv t := by
  have hrest : AtRest s := atRest_of_inv h (by simp [hm])
  obtain ⟨-, rfl⟩ | ⟨c, rest, -, ⟨hr, rfl⟩ | ⟨o, ho, hperf⟩⟩ := acceptStep_idle_cases hm ht
  · exact h
  · exact (atRest_accepting hrest c rest).inv_finish (legalFinish_neutral ((statusAllowed_reserved hr _).mpr rfl))
  · have hacc : Accepted o (accepting c rest s) :=
      ⟨atRest_accepting hrest c rest, opCode_code_of_ofByte ho, rfl⟩
    obtain rfl | rfl := hperf
    · exact hacc.inv_invalidFormat
    · exact inv_performOf hacc

/-- When SEND finishes, its reports are cleared and what ENV accepted are whole reports (R24, R55). -/
theorem atRest_clearTx {s : State} (h : Safety.Inv s) {out : List Bytes} (hout : ∀ r ∈ out, r.length = 64) :
    AtRest (clearTx { s with out := out }) where
  txPkts := rfl
  txIdx := rfl
  outReports := hout
  resPackets := h.resPackets
  recordsLegal := h.recordsLegal
  absentA := h.absentA
  absentB := h.absentB
  absentC := h.absentC

/-- SEND may finish OK or CommunicationError, with a count (R111, R231). -/
theorem legalFinish_send {st : Status} (hst : st = .ok ∨ st = .communicationError) (n : Nat) :
    LegalFinish 0x03#8 st { count := n } where
  status := hst.imp_right .inr
  fields := by constructor <;> simp
  packets := by simp
  records := by simp

/-- A transmit step that does not send the last report leaves the next one in range (R24, R111). -/
theorem inv_nextReport {s : State} (h : Safety.Inv s) (hm : s.mode = .tx) (hne : s.txIdx + 1 ≠ s.txPkts.length)
    {out : List Bytes} (hout : ∀ r ∈ out, r.length = 64) :
    Safety.Inv { s with out := out, txIdx := s.txIdx + 1 } :=
  { h with
    txInRange := fun _ => Nat.lt_of_le_of_ne (h.txInRange hm) hne
    txCleared := fun hn => absurd hm hn
    outReports := hout }

theorem txStep_keeps_inv {ans : EmitAnswer} {s t : State} (h : Safety.Inv s) (hm : s.mode = .tx)
    (ht : txStep ans s = .next t) : Safety.Inv t := by
  have hop := h.txIsSend hm
  obtain ⟨r, hr, ht⟩ := txStep_cases ht
  have hout : ∀ x ∈ s.out ++ [r], x.length = 64 := by
    intro x hx
    obtain hx | hx := List.mem_append.mp hx
    · exact h.outReports x hx
    · rw [List.mem_singleton.mp hx]
      exact h.txReports r (List.mem_of_getElem? hr)
  obtain ⟨-, rfl⟩ | ⟨-, -, rfl⟩ | ⟨-, hne, rfl⟩ := ht
  · exact (atRest_clearTx h h.outReports).inv_finish (hop ▸ legalFinish_send (.inr rfl) _)
  · exact (atRest_clearTx h hout).inv_finish (hop ▸ legalFinish_send (.inl rfl) _)
  · exact inv_nextReport h hm hne hout

/-- A RECEIVE may end in each way of `complete_rx` (R117, R231). -/
theorem inv_completeRx {s : State} (h : Accepted .receive s) (acc : Bytes) (last : Bool) :
    Safety.Inv (completeRx acc last s) := by
  obtain ⟨-, he⟩ | ⟨-, -, he⟩ | ⟨-, -, he⟩ := completeRx_cases acc last s <;> rw [he]
  · exact h.inv_finish_ok
  · refine h.atRest.inv_finish (h.opl ▸ ⟨?_, ?_, by simp, by simp⟩)
    · simp [Safety.statusAllowed]
    · constructor <;> simp [OpCode.code]
  · exact h.atRest.inv_finish (h.opl ▸ legalFinish_neutral (by simp [Safety.statusAllowed]))

/-- A RECEIVE in flight is an accepted RECEIVE at rest. -/
theorem accepted_of_rx {s : State} (h : Safety.Inv s) (hm : s.mode = .rx) : Accepted .receive s where
  atRest := atRest_of_inv h (by simp [hm])
  opl := h.rxIsReceive hm
  noResult := h.busyInvalid (by simp [hm])

/-- Nor does having been accepted. -/
theorem Accepted.withRx {o : OpCode} {s : State} (h : Accepted o s) (acc : Bytes) (last : Bool) :
    Accepted o { s with rxAcc := acc, rxLast := last } :=
  ⟨h.atRest.withRx acc last, h.opl, h.noResult⟩

/-- A report overflows, ends the RECEIVE, or extends the accumulator within RX_CAP (R116, R119). -/
theorem inv_rxReport {s : State} (h : Safety.Inv s) (hm : s.mode = .rx) (r : Bytes) : Safety.Inv (rxReport r s) := by
  have hacc := accepted_of_rx h hm
  obtain ⟨-, he⟩ | ⟨-, -, he⟩ | ⟨hw, -, he⟩ := rxReport_cases r s <;> rw [he]
  · exact (hacc.atRest.withRx [] s.rxLast).inv_finish
      (hacc.opl ▸ legalFinish_neutral (by simp [Safety.statusAllowed]))
  · exact inv_completeRx (hacc.withRx _ true) _ true
  · have hgrown : Safety.Inv { s with mode := .rx, rxAcc := s.rxAcc ++ (unframe r).1, rxLast := false } :=
      inv_receiving hacc (by simpa using hw)
    rwa [← hm, ← h.rxNotLast hm] at hgrown

/-! ### Every agent's move -/

theorem nextMove_keeps_inv {s : State} (h : Safety.Inv s) : Safety.Inv (nextMove s).2 := by
  obtain ⟨m, ms, -, he⟩ | ⟨-, he⟩ := nextMove_cases s <;> rw [he]
  · exact inv_withHost h s.inQ s.port ms s.tick s.seen
  · exact inv_withHost h s.inQ s.port s.agenda (s.tick + 1) s.seen

theorem rxStep_keeps_inv {s t : State} (h : Safety.Inv s) (hm : s.mode = .rx) (ht : rxStep s = .next t) :
    Safety.Inv t := by
  obtain ⟨-, rfl⟩ | ⟨r, q, -, rfl⟩ := rxStep_cases ht
  · exact h
  · exact inv_rxReport (inv_withHost h q s.port s.agenda s.tick s.seen) hm r

theorem blockStep_keeps_inv {ans : EmitAnswer} {s t : State} (h : Safety.Inv s) (ht : blockStep ans s = .next t) :
    Safety.Inv t := by
  obtain ⟨hm, ha⟩ | ⟨hm, hx⟩ | ⟨hm, hr⟩ := blockStep_cases ht
  · exact acceptStep_keeps_inv h hm ha
  · exact txStep_keeps_inv h hm hx
  · exact rxStep_keeps_inv h hm hr

theorem deadline_keeps_inv {s : State} (h : Safety.Inv s) : Safety.Inv (deadline s) := by
  obtain ⟨-, he⟩ | ⟨hm, he⟩ := deadline_cases s <;> rw [he]
  · exact h
  · exact inv_completeRx (accepted_of_rx h hm) _ false

theorem envAppend_keeps_inv {s : State} (h : Safety.Inv s) (r : Bytes) : Safety.Inv (envAppend r s) := by
  obtain ⟨-, he⟩ | ⟨-, he⟩ := envAppend_cases r s <;> rw [he]
  · exact inv_withHost h (s.inQ ++ [r]) s.port s.agenda s.tick s.seen
  · exact h

/-- The opened Link's block has the invariant, whatever it was doing and whatever stands in IN_Q (R260, R261). -/
theorem inv_linkOpen {s : State} (h : ∀ r ∈ s.out, r.length = 64) (q : List Bytes) : Safety.Inv (linkOpen q s) := by
  constructor
  case outReports => exact h
  all_goals simp [ResultReg.reset, Latches.reset]

theorem agentStep_keeps_inv {m : Move} {s t : State} (h : Safety.Inv s) (ht : agentStep m s = .next t) :
    Safety.Inv t := by
  cases m with
  | present line =>
    obtain ⟨c, rfl⟩ := hostPresent_next ht
    exact inv_withHost h s.inQ (s.port ++ [c]) s.agenda s.tick s.seen
  | read sel =>
    obtain rfl := hostRead_next ht
    exact inv_withHost h s.inQ s.port s.agenda s.tick (some (readValue sel s))
  | append r => cases ht; exact envAppend_keeps_inv h r
  | deadline => cases ht; exact deadline_keeps_inv h
  | block ans => exact blockStep_keeps_inv h ht
  | linkOpen q => cases ht; exact inv_linkOpen h.outReports q

/-- Settles O38: a step draws the next move, then an agent makes it, and both keep the invariant. -/
theorem stepKeepsTheInvariant : Obligations.StepKeepsTheInvariant :=
  fun _ _ h ht => agentStep_keeps_inv (nextMove_keeps_inv h) ht

/-- Reset is what the opening of the Link leaves, with ENV's free queue in IN_Q (R40, R260). -/
theorem linkOpen_reset : linkOpen Config.launchInQ State.reset = State.reset := rfl

/-- Settles O37: reset is an opened Link's state from which nothing was sent. -/
theorem resetMeetsTheInvariant : Obligations.ResetMeetsTheInvariant := by
  have h : Safety.Inv (linkOpen Config.launchInQ State.reset) := inv_linkOpen (by simp [State.reset]) _
  rwa [linkOpen_reset] at h

/-- Settles O45: the reset state's fields are R40's, and its parameters R8's defaults, by definition. -/
theorem resetLeavesTheStatedValues : Obligations.ResetLeavesTheStatedValues :=
  ⟨rfl, rfl, rfl, rfl, rfl, rfl, rfl, rfl⟩

/-- Settles O60: R231's table allows IllegalOperation exactly for a reserved OP. -/
theorem resultOpIsACodeUnlessIllegal : Obligations.ResultOpIsACodeUnlessIllegal := by
  intro s h hv
  rw [← opCode_ofByte_eq_none_iff]
  exact statusAllowed_illegalOperation_iff (h.statusLegal hv)

end Sys2Proof.Machine
end

section
/-! PROOFS. HOST's reads, selector by selector, and the constants of the TrackSpec table (10_state.md R30, R31,
R35-R37). -/

namespace Sys2Proof.Machine

/-! ### HOST's reads -/

/-- The tables of R21, R230 and R39 give the codes that HOST reads. -/
theorem mem_modeTable_iff (m : Mode) (c : Byte) : (m, c) ∈ Safety.modeTable ↔ c = modeCode m := by
  cases m <;> simp [Safety.modeTable, modeCode]

theorem mem_statusTable_iff (st : Status) (c : Byte) : (st, c) ∈ Safety.statusTable ↔ c = statusCode st := by
  cases st <;> simp [Safety.statusTable, statusCode]

theorem mem_trackErrTable_iff (e : TrackErr) (c : Byte) : (e, c) ∈ Safety.trackErrTable ↔ c = trackErrCode e := by
  cases e <;> simp [Safety.trackErrTable, trackErrCode]

/-- Only MODE and RES_VALID can be read whatever RES_VALID is (R21, R31). -/
theorem alwaysReadable_iff (sel : ReadSel) : alwaysReadable sel = true ↔ sel = .mode ∨ sel = .valid := by
  cases sel <;> simp [alwaysReadable]

/-- A step in which HOST reads a readable field yields its value and changes nothing of the block (R56). -/
theorem step_read_readable {s : State} {sel : ReadSel} {ms : List Move} (h : s.agenda = .read sel :: ms)
    (hr : alwaysReadable sel = true ∨ s.res.valid = true) :
    step s = .next { s with agenda := ms, seen := some (readValue sel s) } := by
  rw [step_of_agenda h]
  obtain ⟨-, hn⟩ | ⟨ha, hv, -⟩ := hostRead_cases (sel := sel) (s := { s with agenda := ms })
  · exact hn.trans (by cases sel <;> rfl)
  · simp_all

/-- A step in which HOST reads a result field that is not valid is a model fault (R31). -/
theorem step_read_unreadable {s : State} {sel : ReadSel} {ms : List Move} (h : s.agenda = .read sel :: ms)
    (ha : alwaysReadable sel = false) (hv : s.res.valid = false) : step s = .fault (.resultNotValid sel) := by
  rw [step_of_agenda h]
  obtain ⟨hr, -⟩ | ⟨-, -, hf⟩ := hostRead_cases (sel := sel) (s := { s with agenda := ms })
  · simp_all
  · exact hf

/-- Settles O47: the step of a read, at each selector, with the codes of the tables. -/
theorem hostReadsOnlyAValidResult : Obligations.HostReadsOnlyAValidResult := by
  refine ⟨fun s sel ms h => ⟨?mode, ?valid, fun hv => ?result, ?fault⟩, rfl,
    fun m => ⟨_, (mem_modeTable_iff m _).mpr rfl⟩, fun st => ⟨_, (mem_statusTable_iff st _).mpr rfl⟩,
    fun e => ⟨_, (mem_trackErrTable_iff e _).mpr rfl⟩⟩
  case mode =>
    rintro rfl c hc
    rw [(mem_modeTable_iff _ _).mp hc]
    exact step_read_readable h (.inl rfl)
  case valid =>
    rintro rfl
    exact step_read_readable h (.inl rfl)
  case result =>
    have hstep := step_read_readable h (.inr hv)
    refine ⟨?_, ?status, ?_, ?_, ?err, ?_, ?_, ?_, ?_⟩
    case status =>
      rintro rfl c hc
      rw [(mem_statusTable_iff _ _).mp hc]
      exact hstep
    case err =>
      rintro rfl c hc
      rw [(mem_trackErrTable_iff _ _).mp hc]
      exact hstep
    all_goals
      rintro rfl
      exact hstep
  case fault =>
    intro hmode hvalid hv
    refine step_read_unreadable h (Bool.eq_false_iff.mpr fun ha => ?_) hv
    obtain rfl | rfl := (alwaysReadable_iff sel).mp ha
    · exact hmode rfl
    · exact hvalid rfl

/-! ### The TrackSpec table -/

/-- CS1 is 20..5F (R36). -/
theorem charsetHas_cs1_iff (b : Byte) : charsetHas .cs1 b = true ↔ 0x20 ≤ b.toNat ∧ b.toNat ≤ 0x5F := by
  simp [charsetHas]

/-- CS23 is 30..3F and 25 (R37). -/
theorem charsetHas_cs23_iff (b : Byte) :
    charsetHas .cs23 b = true ↔ (0x30 ≤ b.toNat ∧ b.toNat ≤ 0x3F) ∨ b = 0x25#8 := by
  simp [charsetHas, ← BitVec.toNat_inj]

/-- CS1 has 64 members (R36). -/
theorem card_cs1 : ((List.range 256).filter fun n => charsetHas .cs1 (BitVec.ofNat 8 n)).length = 64 := by decide

/-- CS23 has 17 members (R37). -/
theorem card_cs23 : ((List.range 256).filter fun n => charsetHas .cs23 (BitVec.ofNat 8 n)).length = 17 := by decide

/-- Settles O54: the table's sentinels are constants, and a track's characters are those of its set. -/
theorem trackSpecSentinelsAndCharsets : Obligations.TrackSpecSentinelsAndCharsets :=
  fun _ => ⟨⟨rfl, rfl, rfl⟩, fun t => by cases t <;> rfl, charsetHas_cs1_iff,
    fun b => ⟨rfl, charsetHas_cs23_iff b⟩, card_cs1, card_cs23⟩

end Sys2Proof.Machine
end

section
/-! PROOFS. What the steps of the agents leave of OUT, and from it that only a transmit step adds to OUT, and only the
next report of the SEND in flight (20_memory.md R55, R58; 40_packetizer.md R111; log 12). -/

namespace Sys2Proof.Machine

/-! ### What leaves OUT alone -/

@[simp] theorem nextMove_txPkts (s : State) : (nextMove s).2.txPkts = s.txPkts := by
  obtain ⟨m, ms, -, h⟩ | ⟨-, h⟩ := nextMove_cases s <;> simp [h]

@[simp] theorem nextMove_txIdx (s : State) : (nextMove s).2.txIdx = s.txIdx := by
  obtain ⟨m, ms, -, h⟩ | ⟨-, h⟩ := nextMove_cases s <;> simp [h]

@[simp] theorem nextMove_out (s : State) : (nextMove s).2.out = s.out := by
  obtain ⟨m, ms, -, h⟩ | ⟨-, h⟩ := nextMove_cases s <;> simp [h]

/-- Not even SEND's rule touches OUT: it only frames the payload (R110). -/
@[simp] theorem performOf_out (o : OpCode) (s : State) : (performOf o s).out = s.out := by
  obtain ⟨st, f, h⟩ | ⟨-, h⟩ | ⟨-, h⟩ | ⟨-, h⟩ := performOf_cases o s <;> simp [h]

@[simp] theorem completeRx_out (acc : Bytes) (last : Bool) (s : State) : (completeRx acc last s).out = s.out := by
  obtain ⟨-, h⟩ | ⟨-, -, h⟩ | ⟨-, -, h⟩ := completeRx_cases acc last s <;> simp [h]

@[simp] theorem rxReport_out (r : Bytes) (s : State) : (rxReport r s).out = s.out := by
  obtain ⟨-, h⟩ | ⟨-, -, h⟩ | ⟨-, -, h⟩ := rxReport_cases r s <;> simp [h]

@[simp] theorem deadline_out (s : State) : (deadline s).out = s.out := by
  obtain ⟨-, h⟩ | ⟨-, h⟩ := deadline_cases s <;> simp [h]

@[simp] theorem envAppend_out (r : Bytes) (s : State) : (envAppend r s).out = s.out := by
  obtain ⟨-, h⟩ | ⟨-, h⟩ := envAppend_cases r s <;> simp [h]

theorem acceptStep_out {s t : State} (hm : s.mode = .idle) (h : acceptStep s = .next t) : t.out = s.out := by
  obtain ⟨-, rfl⟩ | ⟨c, rest, -, ⟨-, rfl⟩ | ⟨o, -, rfl | rfl⟩⟩ := acceptStep_idle_cases hm h <;> simp

theorem rxStep_out {s t : State} (h : rxStep s = .next t) : t.out = s.out := by
  obtain ⟨-, rfl⟩ | ⟨r, q, -, rfl⟩ := rxStep_cases h <;> simp

/-! ### What adds to OUT -/

/-- The step adds to OUT exactly the report at TX_IDX, in TX (R55, R111). -/
def EmitsNextReport (s t : State) : Prop :=
  s.mode = .tx ∧ ∃ r, s.txPkts[s.txIdx]? = some r ∧ t.out = s.out ++ [r]

/-- A transmit step emits the next report if ENV answers OK, and leaves OUT alone if ENV answers FAIL (R111). -/
theorem txStep_out {ans : EmitAnswer} {s t : State} (hm : s.mode = .tx) (h : txStep ans s = .next t) :
    t.out = s.out ∨ EmitsNextReport s t := by
  obtain ⟨r, hr, ⟨-, rfl⟩ | ⟨-, -, rfl⟩ | ⟨-, -, rfl⟩⟩ := txStep_cases h
  · exact .inl rfl
  all_goals exact .inr ⟨hm, r, hr, rfl⟩

theorem blockStep_out {ans : EmitAnswer} {s t : State} (h : blockStep ans s = .next t) :
    t.out = s.out ∨ EmitsNextReport s t := by
  obtain ⟨hm, ha⟩ | ⟨hm, ht⟩ | ⟨-, hr⟩ := blockStep_cases h
  · exact .inl (acceptStep_out hm ha)
  · exact txStep_out hm ht
  · exact .inl (rxStep_out hr)

/-- Of all the agents only BLOCK touches OUT; the opening of the Link keeps what was sent (log 12). -/
theorem agentStep_out {m : Move} {s t : State} (h : agentStep m s = .next t) :
    t.out = s.out ∨ EmitsNextReport s t := by
  cases m with
  | present line => obtain ⟨c, rfl⟩ := hostPresent_next h; exact .inl rfl
  | read sel => obtain rfl := hostRead_next h; exact .inl rfl
  | append r => cases h; exact .inl (envAppend_out r s)
  | deadline => cases h; exact .inl (deadline_out s)
  | block ans => exact blockStep_out h
  | linkOpen q => cases h; exact .inl (linkOpen_out q s)

/-- Settles O43: drawing the next move leaves MODE, the reports of SEND and OUT alone, and then one agent moves. -/
theorem outboundPortCarriesOnlySendReports : Obligations.OutboundPortCarriesOnlySendReports := by
  intro s t h
  simpa [EmitsNextReport] using agentStep_out (m := (nextMove s).1) (s := (nextMove s).2) h

end Sys2Proof.Machine
end

section
/-! PROOFS. The decoder and the encoder are inverse to each other on the canonical instructions and the commands that
decode (30_encoding.md R80-R83; 42_command_catalog.md R180); what BLOCK's acceptance step does with a command that
decodes and with one that is rejected (R84; 40_packetizer.md R102). -/

namespace Sys2Proof.Machine

/-! ### Decode of encode -/

/-- A device command is not a plain SEND. -/
theorem devCmd_instr_ne_send (d : DevCmd) (data spare : Operand) (ops : Operands) : d.instr data spare ≠ .send ops := by
  cases d <;> simp [DevCmd.instr]

/-- A SEND's operands stay a plain SEND exactly when operand A is no catalog opcode (R180; log 1). -/
theorem decodeSend_eq_send_iff (ops : Operands) : decodeSend ops = .send ops ↔ isCatalogOpcode ops.a = false := by
  unfold decodeSend isCatalogOpcode
  split
  · rename_i e sel ha
    by_cases he : e = Config.esc
    · cases DevCmd.ofSelector sel <;> simp [he, devCmd_instr_ne_send]
    · simp [he]
  · simp

/-- The operands of a device command's SEND decode to that device command. -/
theorem decodeSend_catalogOperands (d : DevCmd) (data spare : Operand) :
    decodeSend (catalogOperands d data spare) = d.instr data spare := by
  simp [decodeSend, catalogOperands]

/-- A SEND's command is decoded by its operands. -/
theorem decode_mkCommand_send (ops : Operands) : decode (mkCommand .send 0x00#8 ops) = .instr (decodeSend ops) := by
  simp [decode, withZeroArg]

/-- A device command's SEND is read back as that device command. -/
theorem decode_devCommand (d : DevCmd) (data spare : Operand) :
    decode (devCommand d data spare) = .instr (d.instr data spare) :=
  (decode_mkCommand_send _).trans (congrArg _ (decodeSend_catalogOperands d data spare))

/-- A canonical instruction is read back from its encoding. -/
theorem decode_encode {i : Instr} (h : i.canonical = true) : decode (encode i) = .instr i := by
  cases i
  case send ops =>
    have hplain : isCatalogOpcode ops.a = false := by simpa [Instr.canonical] using h
    rw [encode, decode_mkCommand_send, (decodeSend_eq_send_iff ops).mpr hplain]
  case frame | unframe | receive | flush | normalize | validate | buildIso | buildRaw | parseIso | parseRaw =>
    simp [encode, decode, withZeroArg]
  all_goals exact decode_devCommand _ _ _

/-- A well-formed instruction is canonical: only SEND's row excludes anything, and it excludes the catalog opcodes. -/
theorem canonical_of_wellFormed {i : Instr} (h : i.wellFormed = true) : i.canonical = true := by
  cases i
  case send ops =>
    obtain ⟨-, hplain⟩ := (Bool.and_eq_true _ _).mp h
    exact hplain
  all_goals rfl

/-- Settles O5: the well-formed instructions are canonical, and the canonical ones are read back. -/
theorem decodeOfEncodeIsTheInstruction : Obligations.DecodeOfEncodeIsTheInstruction :=
  ⟨fun _ h => canonical_of_wellFormed h, fun _ h => decode_encode h⟩

/-! ### Encode of decode -/

/-- The decoder gives only canonical instructions: a plain SEND that it reads was read from its own operands. -/
theorem canonical_of_decode {c : Command} {i : Instr} (h : decode c = .instr i) : i.canonical = true := by
  cases i
  case send ops =>
    obtain rfl : mkCommand .send 0x00#8 ops = c := encode_of_decode h
    rw [decode_mkCommand_send, Decoded.instr.injEq] at h
    simp [Instr.canonical, (decodeSend_eq_send_iff ops).mp h]
  all_goals rfl

/-- Settles O6: what a command decodes to encodes to that command, and is canonical. -/
theorem encodeOfDecodedIsTheCommand : Obligations.EncodeOfDecodedIsTheCommand :=
  fun _ _ h => ⟨encode_of_decode h, canonical_of_decode h⟩

/-! ### Table words -/

/-- A table word decodes as the command it is laid out as (log 2). -/
theorem decode_tableCommand {nbits w : Nat} {i : Instr} (h : decodeTableWord nbits w = some i) :
    decode (tableCommand (BitVec.ofNat 16 w)) = .instr i := by
  unfold decodeTableWord at h
  split at h
  · split at h <;> simp_all
  · cases h

/-- Settles O7: each word is decoded by computation. -/
theorem tableWordsDecodeAsWritten : Obligations.TableWordsDecodeAsWritten :=
  ⟨by decide, by decide, by decide, by decide, by decide, by decide, by decide⟩

/-! ### Acceptance of the command at the head of the port -/

/-- BLOCK's step in IDLE, drawn from the agenda, is its acceptance step (R102). -/
theorem step_block_idle {s : State} {ans : EmitAnswer} {ms : List Move} (h : s.agenda = .block ans :: ms)
    (hm : s.mode = .idle) : step s = acceptStep { s with agenda := ms } := by
  rw [step_of_agenda h]
  simp [agentStep, blockStep, hm]

/-- A command that decodes is taken from the port and run (R102). -/
theorem acceptStep_of_decode {s : State} {c : Command} {rest : List Command} {i : Instr} (hp : s.port = c :: rest)
    (hd : decode c = .instr i) : acceptStep s = exec i { s with port := rest } := by
  simp [acceptStep, hp, hd]

/-- Settles O2: the step takes the placed word's command from the port, which leaves the state as it was. -/
theorem placedTableWordRunsNext : Obligations.PlacedTableWordRunsNext := by
  intro s w i hm hw
  calc step (s.withFetchWord 16 w)
      = acceptStep { s.withFetchWord 16 w with agenda := s.agenda } := step_block_idle rfl hm
    _ = exec i s := acceptStep_of_decode rfl (decode_tableCommand hw)

/-! ### Rejected commands -/

/-- An illegal ARG finishes InvalidFormat, whatever the operation is (R232). -/
theorem accept_illegal {o : OpCode} {arg : Byte} {ops : Operands} {f : State → State} {s : State}
    (hm : s.mode = .idle) (ha : o.argLegal arg = false) :
    accept o arg ops f s = .next (finish .invalidFormat {} (latch o.code arg ops s)) := by
  simp [accept, hm, ha]

/-- The acceptance of a command word that is no instruction, in IDLE (R84, R102). -/
theorem acceptRejected_idle {op arg : Byte} {ops : Operands} {st : Status} {s : State} (hm : s.mode = .idle) :
    acceptRejected op arg ops st s = .next (finish st {} (latch op arg ops s)) := by
  simp [acceptRejected, hm]

/-- A command whose acceptance finishes with neutral fields leaves its latches and a neutral result, and is gone from
the port; nothing else changes. -/
theorem finish_accepting (st : Status) (c : Command) (rest : List Command) (s : State) :
    finish st {} (accepting c rest s) =
      { s with
        port := rest, mode := .idle, lat := Safety.latched c.op c.arg c.ops
        res := Safety.neutralResult c.op st (statusIsOk st) } := by
  rw [← captured_eq_latched]
  rfl

/-- A command with a reserved OP finishes IllegalOperation (R84). -/
theorem acceptStep_reservedOp {s : State} {c : Command} {rest : List Command} (hm : s.mode = .idle)
    (hp : s.port = c :: rest) (ho : OpCode.ofByte c.op = none) :
    acceptStep s = .next { s with
      port := rest, mode := .idle, lat := Safety.latched c.op c.arg c.ops
      res := Safety.neutralResult c.op .illegalOperation false } := by
  have hd : decode c = .reservedOp c.op := by simp [decode, ho]
  calc acceptStep s
      = acceptRejected c.op c.arg c.ops .illegalOperation { s with port := rest } := by simp [acceptStep, hp, hd]
    _ = .next (finish .illegalOperation {} (accepting c rest s)) := acceptRejected_idle hm
    _ = _ := congrArg _ (finish_accepting _ c rest s)

/-- A command with a known OP and an illegal ARG finishes InvalidFormat, whether it decodes or not (R84, R232;
log 15). -/
theorem acceptStep_illegalArg {s : State} {c : Command} {rest : List Command} {o : OpCode} (hm : s.mode = .idle)
    (hp : s.port = c :: rest) (ho : OpCode.ofByte c.op = some o) (ha : o.argLegal c.arg = false) :
    acceptStep s = .next { s with
      port := rest, mode := .idle, lat := Safety.latched c.op c.arg c.ops
      res := Safety.invalidFormatResult c.op } := by
  refine Eq.trans ?_ (congrArg _ (finish_accepting .invalidFormat c rest s))
  obtain ⟨hn, -⟩ | ⟨-, -, ⟨i, hd, he⟩ | hd⟩ := decode_cases c
  · cases hn.symm.trans ho
  · have hop := op_of_decode hd
    obtain rfl : opCodeOf i = o := by simpa [hop] using ho
    rw [acceptStep_of_decode hp hd, exec_eq_accept, he, accepting, hop]
    exact accept_illegal hm ha
  · calc acceptStep s
        = acceptRejected c.op c.arg c.ops .invalidFormat { s with port := rest } := by simp [acceptStep, hp, hd]
      _ = _ := acceptRejected_idle hm

/-- NORMALIZE and VALIDATE take a track number (R82). -/
theorem ofByte_argLegal_track {b : Byte} (h : b ∈ [0x10#8, 0x11#8]) :
    ∃ o, OpCode.ofByte b = some o ∧ ∀ arg, o.argLegal arg = (Track.ofByte arg).isSome := by
  obtain rfl | rfl : b = 0x10#8 ∨ b = 0x11#8 := by simpa using h
  · exact ⟨.normalize, rfl, fun _ => rfl⟩
  · exact ⟨.validate, rfl, fun _ => rfl⟩

/-- Every other operation takes ARG 0 only (R82). -/
theorem ofByte_argLegal_zero {b : Byte}
    (h : b ∈ [0x01#8, 0x02#8, 0x03#8, 0x04#8, 0x05#8, 0x12#8, 0x13#8, 0x14#8, 0x15#8]) :
    ∃ o, OpCode.ofByte b = some o ∧ ∀ arg, o.argLegal arg = (arg == 0x00#8) := by
  cases ho : OpCode.ofByte b with
  | none =>
    have hsub : [0x01#8, 0x02#8, 0x03#8, 0x04#8, 0x05#8, 0x12#8, 0x13#8, 0x14#8, 0x15#8] ⊆
        [0x01#8, 0x02#8, 0x03#8, 0x04#8, 0x05#8, 0x10#8, 0x11#8, 0x12#8, 0x13#8, 0x14#8, 0x15#8] := by decide
    exact absurd (hsub h) ((opCode_ofByte_eq_none_iff b).mp ho)
  | some o =>
    refine ⟨o, rfl, fun arg => ?_⟩
    obtain rfl := opCode_code_of_ofByte ho
    cases o
    case normalize | validate => simp [OpCode.code] at h
    all_goals rfl

/-- Settles O3: the three rejections are the acceptance's of a reserved OP and of an illegal ARG. -/
theorem rejectedCommandWordFinishesAtOnce : Obligations.RejectedCommandWordFinishesAtOnce := by
  intro s c rest ans ms hag hm hp
  rw [step_block_idle hag hm]
  refine ⟨fun hop => ?reserved, fun hop harg => ?track, fun hop harg => ?zero⟩
  case reserved =>
    exact acceptStep_reservedOp (s := { s with agenda := ms }) hm hp ((opCode_ofByte_eq_none_iff c.op).mpr hop)
  case track =>
    obtain ⟨o, ho, hl⟩ := ofByte_argLegal_track hop
    have hi : o.argLegal c.arg = false := by simp [hl, (track_ofByte_eq_none_iff c.arg).mpr harg]
    exact acceptStep_illegalArg (s := { s with agenda := ms }) hm hp ho hi
  case zero =>
    obtain ⟨o, ho, hl⟩ := ofByte_argLegal_zero hop
    have hi : o.argLegal c.arg = false := by simp [hl, harg]
    exact acceptStep_illegalArg (s := { s with agenda := ms }) hm hp ho hi

end Sys2Proof.Machine
end

section
/-! PROOFS. The header, chunk and padding of each packet of FRAME (30_encoding.md R71-R75). -/

namespace Sys2Proof.Machine

/-- Behind a packet's header stand its chunk and zeros up to 63 bytes (R75). -/
theorem packet_tail (p : Bytes) (k : Nat) :
    (packet p k).tail =
      (p.drop (63 * k)).take 63 ++ List.replicate (63 - ((p.drop (63 * k)).take 63).length) 0x00#8 := by
  rw [packet_eq, List.tail_cons]

/-- A packet's header is FIRST for packet 0, LAST for the last one, and the chunk's length (R71, R103). -/
theorem packet_head? (p : Bytes) {k : Nat} (hk : k < packetCount p.length) :
    (packet p k).head? = some (BitVec.ofNat 8
      ((if k = 0 then 0x80 else 0) + (if k + 1 = packetCount p.length then 0x40 else 0)
        + min 63 (p.length - 63 * k))) := by
  rw [packet_eq, List.head?_cons, mkHeader_eq_ofNat _ _ (chunkLength_lt p k)]
  simp [packet_ends_iff p hk]

/-- Settles O10: R72's four rows are the header of a single, first, middle and last packet. -/
theorem frameHeadersChunksAndPadding : Obligations.FrameHeadersChunksAndPadding := by
  intro p k r hr
  obtain ⟨hk, rfl⟩ := frame_getElem? hr
  have hcount : packetCount p.length = max 1 ((p.length + 62) / 63) := rfl
  rw [packet_head? p hk, frame_length]
  refine ⟨packet_tail p k, fun hsingle => ?single, fun hmany hfirst => ?first, fun hlow hmiddle => ?middle,
    fun hmany hlast => ⟨?last, by omega, by omega⟩⟩
  case single =>
    have hlen : 0x80 + 0x40 + (p.length - 63 * k) = 0xC0 + p.length := by omega
    rw [if_pos (by omega), if_pos (by omega), Nat.min_eq_right (by omega), hlen]
  case first => rw [if_pos (by omega), if_neg (by omega), Nat.min_eq_left (by omega)]
  case middle => rw [if_neg (by omega), if_neg (by omega), Nat.min_eq_left (by omega)]
  case last => rw [if_neg (by omega), if_pos (by omega), Nat.min_eq_right (by omega), Nat.zero_add]

end Sys2Proof.Machine
end

section
/-! PROOFS. BUILD_ISO and BUILD_RAW: the payload each completes with, in terms of the operands (30_encoding.md R91, R92,
R95; 41_track_codec.md R150, R153). -/

namespace Sys2Proof.Machine

/-- A `finish` right after the acceptance of a command in IDLE: only the latches and the result change (R102, R140). -/
theorem finish_latch_of_idle (st : Status) (f : ResultFields) (op arg : Byte) (ops : Operands) {s : State}
    (hm : s.mode = .idle) :
    finish st f (latch op arg ops s) = { s with lat := Safety.latched op arg ops, res := finished op st f } := by
  simp [finish, latch, ← captured_eq_latched, hm]

/-! ### BUILD_ISO -/

/-- The text that BUILD_ISO writes for a track: its operand normalized, nothing for an absent one (R150). -/
def isoText (p : Config.Params) (t : Track) (o : Operand) : Bytes :=
  match o with
  | some x => norm p t x
  | none => []

/-- The normal form of the empty text is empty (R142). -/
@[simp] theorem norm_nil (p : Config.Params) (t : Track) : norm p t [] = [] := by
  cases t <;> rfl

/-- An absent track and a present empty one write the same text (R95). -/
theorem isoText_some_getD (p : Config.Params) (t : Track) (o : Operand) :
    isoText p t (some (o.getD [])) = isoText p t o := by
  cases o <;> simp [isoText]

/-- The text of a track as BUILD_ISO reads it from its latch. -/
theorem latched_isoText (p : Config.Params) (t : Track) (o : Operand) :
    (if o.isSome then norm p t (o.getD []) else []) = isoText p t o := by
  cases o <;> rfl

/-- BUILD_ISO in IDLE completes with the ISO payload of its tracks' texts. -/
theorem exec_buildIso (ops : Operands) {s : State} (hm : s.mode = .idle) :
    exec (.buildIso ops) s = .next { s with
      lat := Safety.latched 0x12#8 0x00#8 ops
      res := { Safety.okResult 0x12#8 with
        bytes := isoPayload (isoText s.params .t1 ops.a) (isoText s.params .t2 ops.b)
          (isoText s.params .t3 ops.c) } } := by
  have hrun : exec (.buildIso ops) s = .next (performBuildIso (latch 0x12#8 0x00#8 ops s)) := accept_legal hm rfl
  rw [hrun, performBuildIso]
  simp only [latch_lat, latch_params, captured_pa, captured_pb, captured_pc, captured_a, captured_b, captured_c,
    latched_isoText]
  exact congrArg _ (finish_latch_of_idle _ _ _ _ _ hm)

/-- The ISO payload adds 10 bytes of markers to its texts (R150). -/
theorem isoPayload_length (n1 n2 n3 : Bytes) :
    (isoPayload n1 n2 n3).length = 10 + n1.length + n2.length + n3.length := by
  simp [isoPayload, dataStart, trackMarker, terminator]
  omega

/-- Settles O28: the ISO payload's markers, written out, stand around the tracks' texts. -/
theorem buildIsoEmitsTheIsoPayload : Obligations.BuildIsoEmitsTheIsoPayload :=
  fun ops s hm =>
    ⟨rfl, isoText s.params .t1 ops.a, isoText s.params .t2 ops.b, isoText s.params .t3 ops.c, rfl, rfl, rfl,
      isoPayload _ _ _, rfl, isoPayload_length _ _ _, exec_buildIso ops hm⟩

/-! ### BUILD_RAW -/

/-- A track's bytes as BUILD_RAW reads them from its latch (R153). -/
theorem latchedTrack_getD (o : Operand) : latchedTrack o.isSome (o.getD []) = o.getD [] := by
  cases o <;> rfl

/-- The result of BUILD_RAW on three tracks (R153). -/
def buildRawResult (r1 r2 r3 : Bytes) : ResultReg :=
  if 255 < r1.length ∨ 255 < r2.length ∨ 255 < r3.length then Safety.invalidFormatResult 0x13#8
  else { Safety.okResult 0x13#8 with bytes := rawPayload r1 r2 r3 }

/-- BUILD_RAW in IDLE completes with the result of its tracks. -/
theorem exec_buildRaw (ops : Operands) {s : State} (hm : s.mode = .idle) :
    exec (.buildRaw ops) s = .next { s with
      lat := Safety.latched 0x13#8 0x00#8 ops
      res := buildRawResult (ops.a.getD []) (ops.b.getD []) (ops.c.getD []) } := by
  have hrun : exec (.buildRaw ops) s = .next (performBuildRaw (latch 0x13#8 0x00#8 ops s)) := accept_legal hm rfl
  rw [hrun, performBuildRaw, buildRawResult]
  simp only [latch_lat, captured_pa, captured_pb, captured_pc, captured_a, captured_b, captured_c, latchedTrack_getD]
  split
  · exact congrArg _ (finish_latch_of_idle _ _ _ _ _ hm)
  · exact congrArg _ (finish_latch_of_idle _ _ _ _ _ hm)

/-- The raw payload adds 13 bytes of markers and lengths to its tracks (R153). -/
theorem rawPayload_length (r1 r2 r3 : Bytes) :
    (rawPayload r1 r2 r3).length = 13 + r1.length + r2.length + r3.length := by
  simp [rawPayload, rawSection, dataStart, trackMarker, terminator]
  omega

/-- The length byte of a track that fits says its length (R92). -/
theorem rawLength_toNat {r : Bytes} (h : r.length ≤ 255) : (BitVec.ofNat 8 r.length).toNat = r.length := by
  rw [BitVec.toNat_ofNat, Nat.mod_eq_of_lt (by omega)]

/-- Settles O29: the raw payload's markers and length bytes, written out, stand before the tracks' bytes. -/
theorem buildRawEmitsLengthPrefixedSections : Obligations.BuildRawEmitsLengthPrefixedSections := by
  intro ops s hm
  rw [exec_buildRaw ops hm, buildRawResult]
  refine ⟨rfl, fun ha hb hc => ?fits, fun hlong => ?tooLong⟩
  case fits =>
    rw [if_neg (by omega)]
    exact ⟨rawPayload _ _ _, _, _, _, rawLength_toNat ha, rawLength_toNat hb, rawLength_toNat hc,
      by simp [rawPayload, rawSection, dataStart, trackMarker, terminator, Track.byte], rawPayload_length _ _ _, rfl⟩
  case tooLong => rw [if_pos hlong]

/-! ### Absent and empty tracks -/

/-- Settles O30: both results are functions of what an absent track and a present empty one have in common. -/
theorem absentAndEmptyTracksBuildAlike : Obligations.AbsentAndEmptyTracksBuildAlike := by
  refine fun ops s hm => ⟨⟨_, _, exec_buildIso ops hm, exec_buildIso _ hm, ?iso⟩,
    ⟨_, _, exec_buildRaw ops hm, exec_buildRaw _ hm, ?raw⟩⟩
  case iso => simp only [isoText_some_getD]
  case raw => rfl

end Sys2Proof.Machine
end

section
/-! PROOFS. HOST's presenting of a line with `@RES` resolved (30_encoding.md R85; 10_state.md R31), and two programs
that assemble to HOST's sequences (R86; 70_reset_and_hazards.md R263, R264). -/

namespace Sys2Proof.Machine

/-! ### Presenting -/

/-- An operand that may be resolved is the one HOST presents (R85). -/
theorem resolveOperand_eq_some {res : ResultReg} {o : HostOperand} (h : res.valid = true ∨ o ≠ .res) :
    resolveOperand res o = some (Safety.presentedOperand res.bytes o) := by
  cases o with
  | absent => rfl
  | bytes s => rfl
  | res =>
    have hv : res.valid = true := by simpa using h
    simp [resolveOperand, hv, Safety.presentedOperand]

/-- A line whose operands may all be resolved is the command with the operands HOST presents (R85). -/
theorem resolveCommand_eq_some {res : ResultReg} {line : HostCommand}
    (h : res.valid = true ∨ (line.a ≠ .res ∧ line.b ≠ .res ∧ line.c ≠ .res)) :
    resolveCommand res line = some ⟨line.cw, ⟨Safety.presentedOperand res.bytes line.a,
      Safety.presentedOperand res.bytes line.b, Safety.presentedOperand res.bytes line.c⟩⟩ := by
  have ha : res.valid = true ∨ line.a ≠ .res := h.imp_right fun ⟨ha, _, _⟩ => ha
  have hb : res.valid = true ∨ line.b ≠ .res := h.imp_right fun ⟨_, hb, _⟩ => hb
  have hc : res.valid = true ∨ line.c ≠ .res := h.imp_right fun ⟨_, _, hc⟩ => hc
  simp [resolveCommand, resolveOperand_eq_some, ha, hb, hc]

/-- Settles O48: the step is HOST's presenting, which resolves the line or faults. -/
theorem hostPresentsTheLine : Obligations.HostPresentsTheLine := by
  intro s line ms hag
  rw [step_of_agenda hag]
  refine ⟨fun hres => ?presented, fun hv hres => ?fault⟩
  case presented => simp [agentStep, hostPresent, resolveCommand_eq_some hres]
  case fault => simp [agentStep, hostPresent, (resolveCommand_eq_none_iff s.res line).mpr ⟨hv, hres⟩]

/-! ### HOST's sequences -/

/-- Settles O55: the assembler, run on the two texts, gives the two sequences. -/
theorem assembledEraseProgramIsTheSequence : Obligations.AssembledEraseProgramIsTheSequence :=
  ⟨by decide, by decide⟩

end Sys2Proof.Machine
end

section
/-! PROOFS. What BLOCK's acceptance does with the packetizer's own commands, in terms of their operands: FRAME, UNFRAME,
SEND, RECEIVE and FLUSH (40_packetizer.md R104-R122), and that nothing is accepted while BLOCK is busy (R101). -/

namespace Sys2Proof.Machine

/-! ### Acceptance in IDLE and while busy -/

/-- Settles O1: BLOCK's step in IDLE is its acceptance step, which runs what the port's head decodes to. -/
theorem stepRunsTheDecodedInstruction : Obligations.StepRunsTheDecodedInstruction := by
  intro s c rest ans ms i hag hm hp hd
  calc step s = acceptStep { s with agenda := ms } := step_block_idle hag hm
    _ = exec i { s with agenda := ms, port := rest } := acceptStep_of_decode hp hd

/-- A busy block holds every instruction (R101; log 14). -/
theorem exec_busy {i : Instr} {s : State} (hm : s.mode ≠ .idle) : exec i s = .next s := by
  rw [exec_eq_accept, accept_busy hm]

/-- A busy block's step leaves the presented commands and the latches (R101). -/
theorem blockStep_busy {ans : EmitAnswer} {s t : State} (hm : s.mode ≠ .idle) (h : blockStep ans s = .next t) :
    t.port = s.port ∧ t.lat = s.lat := by
  obtain ⟨hi, -⟩ | ⟨-, ht⟩ | ⟨-, hr⟩ := blockStep_cases h
  · exact absurd hi hm
  · exact ⟨txStep_port ht, txStep_lat ht⟩
  · exact ⟨rxStep_port hr, rxStep_lat hr⟩

/-- Settles O4: neither an instruction nor a transmit or report step touches a held command. -/
theorem commandIsHeldWhileBusy : Obligations.CommandIsHeldWhileBusy := by
  refine ⟨fun i s hm => exec_busy hm, fun s t ans ms hag hm ht => ?_⟩
  rw [step_of_agenda hag] at ht
  exact blockStep_busy (s := { s with agenda := ms }) hm ht

/-! ### Bounds, counts and the refusal of operands -/

/-- A size exceeds an optional bound iff it is not within it (R8). -/
theorem exceeds_iff_not_within (cap : Option Nat) (n : Nat) : exceeds cap n = true ↔ ¬ Safety.within cap n := by
  rw [← exceeds_eq_false_iff, Bool.not_eq_false]

/-- The number of packets is `ceil(max(L, 1) / 63)` (R105). -/
theorem packetCount_eq_ceil (n : Nat) : packetCount n = (max n 1 + 62) / 63 := by
  simp only [packetCount]; omega

/-- An operation that refuses its operands right after its acceptance in IDLE (R231). -/
theorem finish_invalidFormat_latch (op arg : Byte) (ops : Operands) {s : State} (hm : s.mode = .idle) :
    finish .invalidFormat {} (latch op arg ops s) =
      { s with lat := Safety.latched op arg ops, res := Safety.invalidFormatResult op } :=
  finish_latch_of_idle .invalidFormat {} op arg ops hm

/-! ### FRAME -/

theorem performFrame_within {s : State} (h : Safety.within s.params.maxPayload s.lat.a.length) :
    performFrame s = finish .ok { pkts := frame s.lat.a, count := (frame s.lat.a).length } s := by
  simp [performFrame, (exceeds_eq_false_iff _ _).mpr h]

theorem performFrame_oversize {s : State} (h : ¬ Safety.within s.params.maxPayload s.lat.a.length) :
    performFrame s = finish .invalidFormat {} s := by
  simp [performFrame, (exceeds_iff_not_within _ _).mpr h]

theorem exec_frame {ops : Operands} {s : State} (hm : s.mode = .idle) :
    exec (.frame ops) s = .next (performFrame (latch 0x01#8 0x00#8 ops s)) := accept_legal hm rfl

/-- Settles O8: FRAME's rule on the latched operand A, within MAX_PAYLOAD and above it. -/
theorem frameStoresPacketsAndCount : Obligations.FrameStoresPacketsAndCount := by
  intro ops s hm
  rw [exec_frame hm]
  refine ⟨rfl, fun hw => ?within, fun hw => ?oversize⟩
  case within =>
    rw [performFrame_within (by simpa using hw), finish_latch_of_idle _ _ _ _ _ hm, ← packetCount_eq_ceil,
      ← frame_length, latch_lat, captured_a]
    rfl
  case oversize => rw [performFrame_oversize (by simpa using hw), finish_invalidFormat_latch _ _ _ hm]

/-! ### UNFRAME -/

/-- A report with the bytes that its header declares (R106). -/
theorem unframe_wellFormed {h : Byte} {tl : Bytes} (hl : h.toNat % 64 ≤ tl.length) :
    unframe (h :: tl) = (tl.take (h.toNat % 64), h.getLsbD 6, .wellFormed) := by
  have hshort : ¬ (h :: tl).length < 1 + h.toNat % 64 := by rw [List.length_cons]; omega
  simp only [unframe, headerLen_eq_mod, if_neg hshort]
  simp [memRead, headerLast]

/-- A report with fewer bytes than its header declares (R106). -/
theorem unframe_malformed {h : Byte} {tl : Bytes} (hl : tl.length < h.toNat % 64) :
    unframe (h :: tl) = ([], false, .malformed) := by
  have hshort : (h :: tl).length < 1 + h.toNat % 64 := by rw [List.length_cons]; omega
  simp only [unframe, headerLen_eq_mod, if_pos hshort]

theorem performUnframe_wellFormed {s : State} {f : Bytes} {last : Bool} (h : unframe s.lat.a = (f, last, .wellFormed)) :
    performUnframe s = finish .ok { bytes := f, flag := last } s := by
  simp [performUnframe, h]

theorem performUnframe_malformed {s : State} (h : unframe s.lat.a = ([], false, .malformed)) :
    performUnframe s = finish .invalidFormat {} s := by
  simp [performUnframe, h]

theorem performUnframe_absent {s : State} (h : s.lat.a = []) : performUnframe s = finish .invalidFormat {} s := by
  simp [performUnframe, h, unframe]

theorem exec_unframe {ops : Operands} {s : State} (hm : s.mode = .idle) :
    exec (.unframe ops) s = .next (performUnframe (latch 0x02#8 0x00#8 ops s)) := accept_legal hm rfl

/-- Settles O11: UNFRAME's rule on the latched report, in each of the three ways `unframe` finds it. -/
theorem unframeYieldsFragmentAndLastFlag : Obligations.UnframeYieldsFragmentAndLastFlag := by
  intro ops s hm
  rw [exec_unframe hm]
  refine ⟨rfl, fun h tl ha hl => ?wellFormed, fun h tl ha hl => ?malformed, fun ha => ?absent⟩
  case wellFormed =>
    rw [performUnframe_wellFormed (by simpa [ha] using unframe_wellFormed hl), finish_latch_of_idle _ _ _ _ _ hm]
    rfl
  case malformed =>
    rw [performUnframe_malformed (by simpa [ha] using unframe_malformed hl), finish_invalidFormat_latch _ _ _ hm]
  case absent =>
    have hempty : ops.a.getD [] = [] := by obtain ha | ha := ha <;> simp [ha]
    rw [performUnframe_absent (by simpa using hempty), finish_invalidFormat_latch _ _ _ hm]

/-! ### SEND -/

theorem performSend_starts {s : State} (hop : s.lat.a.length = 1 ∨ s.lat.a.length = 2)
    (hw : Safety.within s.params.maxPayload (s.lat.a ++ s.lat.b).length) :
    performSend s = { s with txPkts := frame (s.lat.a ++ s.lat.b), txIdx := 0, mode := .tx } := by
  rw [performSend, if_pos hop, (exceeds_eq_false_iff _ _).mpr hw]
  rfl

theorem performSend_oversize {s : State} (hw : ¬ Safety.within s.params.maxPayload (s.lat.a ++ s.lat.b).length) :
    performSend s = finish .invalidFormat {} s := by
  rw [performSend, (exceeds_iff_not_within _ _).mpr hw]
  simp

theorem performSend_opcodeLength {s : State} (hop : ¬ (s.lat.a.length = 1 ∨ s.lat.a.length = 2)) :
    performSend s = finish .invalidFormat {} s := by
  rw [performSend, if_neg hop]

theorem exec_send {ops : Operands} {s : State} (hm : s.mode = .idle) :
    exec (.send ops) s = .next (performSend (latch 0x03#8 0x00#8 ops s)) := accept_legal hm rfl

/-- The message that a SEND's operands give: its opcode and its data (R110). -/
abbrev sentMessage (ops : Operands) : Bytes := ops.a.getD [] ++ ops.b.getD []

/-- The state from which a SEND transmits: latched, no result valid, the framed message before it (R110). -/
abbrev sendStarted (ops : Operands) (s : State) : State :=
  { s with
    lat := Safety.latched 0x03#8 0x00#8 ops, res := { s.res with valid := false }, mode := .tx
    txPkts := frame (sentMessage ops), txIdx := 0 }

/-- A legal SEND in IDLE starts to transmit (R110). -/
theorem exec_send_starts {ops : Operands} {s : State} (hm : s.mode = .idle)
    (hop : (ops.a.getD []).length = 1 ∨ (ops.a.getD []).length = 2)
    (hw : Safety.within s.params.maxPayload (sentMessage ops).length) :
    exec (.send ops) s = .next (sendStarted ops s) := by
  rw [exec_send hm, performSend_starts (by simpa using hop) (by simpa using hw), sendStarted, ← captured_eq_latched]
  simp [latch]

/-- Settles O12: SEND's rule on the latched opcode and data, legal, oversize, or with an opcode of another length. -/
theorem sendAcceptanceFramesTheMessage : Obligations.SendAcceptanceFramesTheMessage := by
  intro ops s hm
  refine ⟨rfl, fun hop hw => exec_send_starts hm hop hw, fun _ hw => ?oversize, fun h1 h2 => ?opcodeLength⟩
  case oversize =>
    rw [exec_send hm, performSend_oversize (by simpa using hw), finish_invalidFormat_latch _ _ _ hm]
  case opcodeLength =>
    rw [exec_send hm, performSend_opcodeLength (by simpa using And.intro h1 h2), finish_invalidFormat_latch _ _ _ hm]

/-! ### RECEIVE and FLUSH -/

/-- Settles O18: RECEIVE's rule clears the accumulator and leaves IN_Q. -/
theorem receiveAcceptanceStartsEmpty : Obligations.ReceiveAcceptanceStartsEmpty := by
  intro ops s hm
  have hrun : exec (.receive ops) s = .next (performReceive (latch 0x04#8 0x00#8 ops s)) := accept_legal hm rfl
  rw [hrun, ← captured_eq_latched]
  exact ⟨rfl, rfl⟩

/-- Settles O23: FLUSH finishes at once, with the length of the queue that it empties. -/
theorem flushDiscardsThePendingReports : Obligations.FlushDiscardsThePendingReports := by
  intro ops s hm
  have hrun : exec (.flush ops) s = .next (performFlush (latch 0x05#8 0x00#8 ops s)) := accept_legal hm rfl
  have hfinish := finish_latch_of_idle .ok { count := s.inQ.length } 0x05#8 0x00#8 ops (s := { s with inQ := [] }) hm
  exact ⟨rfl, hrun.trans (congrArg _ hfinish)⟩

end Sys2Proof.Machine
end

section
/-! PROOFS. The laws of `frame`, with the round trip through `unframe` (40_packetizer.md R105). -/

namespace Sys2Proof.Machine

/-- The header of a packet, field by field (R71, R103). -/
theorem packet_header (p : Bytes) {k : Nat} (hk : k < packetCount p.length) :
    ∃ h tl, packet p k = h :: tl ∧ (h.getLsbD 7 = true ↔ k = 0) ∧
      (h.getLsbD 6 = true ↔ k + 1 = packetCount p.length) ∧ h.toNat % 64 = min 63 (p.length - 63 * k) := by
  refine ⟨_, _, packet_eq p k, ?first, ?last, ?len⟩
  case first => rw [mkHeader_first _ _ (chunkLength_lt p k), beq_iff_eq]
  case last => rw [mkHeader_last _ _ (chunkLength_lt p k), beq_iff_eq, packet_ends_iff p hk]
  case len => rw [← headerLen_eq_mod, mkHeader_len _ _ (chunkLength_lt p k)]

/-- UNFRAME finds is_last on the last packet of a frame only (R105). -/
theorem unframe_packet_last (p : Bytes) {k : Nat} (hk : k < packetCount p.length) :
    (unframe (packet p k)).2.1 = decide (k + 1 = packetCount p.length) := by
  simp [unframe_packet, packet_ends_iff p hk]

/-- The chunks of the first `n` packets are the first `63 * n` bytes of the payload. -/
theorem flatten_chunks (p : Bytes) (n : Nat) :
    ((List.range n).map fun k => (p.drop (63 * k)).take 63).flatten = p.take (63 * n) := by
  induction n with
  | zero => simp
  | succ n ih => simp [List.range_succ, ih, Nat.mul_succ, List.take_add]

/-- The packets' chunks reach the payload's end. -/
theorem length_le_packetCount (n : Nat) : n ≤ 63 * packetCount n := by
  simp only [packetCount]; omega

/-- The round trip: the fragments of a frame's packets are the payload (R105). -/
theorem flatten_unframe_frame (p : Bytes) : ((frame p).map fun r => (unframe r).1).flatten = p := by
  calc ((frame p).map fun r => (unframe r).1).flatten
      = ((List.range (packetCount p.length)).map fun k => (p.drop (63 * k)).take 63).flatten := by
        simp [frame, List.map_map, Function.comp_def, unframe_packet]
    _ = p.take (63 * packetCount p.length) := flatten_chunks p _
    _ = p := List.take_of_length_le (length_le_packetCount _)

/-- A packet's LEN is the length of its fragment. -/
theorem packet_len (p : Bytes) (k : Nat) :
    ((packet p k).headD 0x00#8).toNat % 64 = (unframe (packet p k)).1.length := by
  rw [unframe_packet, packet_eq, List.headD_cons, ← headerLen_eq_mod, mkHeader_len _ _ (chunkLength_lt p k)]
  simp

/-- The LENs of a frame's packets add up to the payload's length: they are its fragments' lengths (R105). -/
theorem sum_len_frame (p : Bytes) : ((frame p).map fun r => (r.headD 0x00#8).toNat % 64).sum = p.length := by
  calc ((frame p).map fun r => (r.headD 0x00#8).toNat % 64).sum
      = (((frame p).map fun r => (unframe r).1).map List.length).sum := by
        simp only [frame, List.map_map, Function.comp_def, packet_len]
    _ = ((frame p).map fun r => (unframe r).1).flatten.length := List.length_flatten.symm
    _ = p.length := congrArg _ (flatten_unframe_frame p)

/-- Settles O9: the six laws, each of the packet of its index or of the fragments put together. -/
theorem frameLawsAndRoundTrip : Obligations.FrameLawsAndRoundTrip := by
  intro p
  have hcount : packetCount p.length = max 1 ((p.length + 62) / 63) := rfl
  rw [frame_length]
  refine ⟨packetCount_eq_ceil _, fun r => length_of_mem_frame, fun k r hr => ?header, sum_len_frame p,
    flatten_unframe_frame p, fun k r hr => ?last⟩
  case header =>
    obtain ⟨hk, rfl⟩ := frame_getElem? hr
    obtain ⟨h, tl, he, hfirst, hlast, hlen⟩ := packet_header p hk
    refine ⟨h, tl, he, hfirst, hlast, hlen.trans ?_⟩
    split <;> omega
  case last =>
    obtain ⟨hk, rfl⟩ := frame_getElem? hr
    exact unframe_packet_last p hk

end Sys2Proof.Machine
end

section
/-! PROOFS. SEND's transmit steps: one step for each answer of ENV, a run of accepted reports, and from it a SEND that
delivers every report and one that stops at the first failure (40_packetizer.md R110, R111). -/

namespace Sys2Proof.Machine

/-! ### Runs -/

/-- A machine's run takes its first step and goes on from there. -/
theorem run_succ_of_step {M : Host.Core} {s t : M.State} (h : M.step s = .next t) (k : Nat) :
    M.run (k + 1) s = M.run k t := by
  rw [Host.Core.run, h]

/-- A machine's run that goes through is followed by the run from where it ends. -/
theorem run_add_of_run {M : Host.Core} {a : Nat} {s t : M.State} (h : M.run a s = .next t) (b : Nat) :
    M.run (a + b) s = M.run b t := by
  induction a generalizing s with
  | zero => cases h; rw [Nat.zero_add]
  | succ a ih =>
    rw [Host.Core.run] at h
    split at h
    · rename_i u hu
      rw [Nat.succ_add, run_succ_of_step hu, ih h]
    · cases h
    · cases h

/-- `k` steps lead from `s` to `t`. -/
def Leads (k : Nat) (s t : State) : Prop := Sys2Proof.core.run k s = .next t

theorem leads_zero (s : State) : Leads 0 s s := rfl

theorem Leads.cons {k : Nat} {s t u : State} (h : step s = .next t) (ht : Leads k t u) : Leads (k + 1) s u :=
  (run_succ_of_step (M := Sys2Proof.core) h k).trans ht

theorem Leads.append {a b : Nat} {s t u : State} (hs : Leads a s t) (ht : Leads b t u) : Leads (a + b) s u :=
  (run_add_of_run (M := Sys2Proof.core) hs b).trans ht

/-- A run goes on by one step. -/
theorem Leads.snoc {k : Nat} {s t u : State} (hs : Leads k s t) (h : step t = .next u) : Leads (k + 1) s u :=
  hs.append ((leads_zero u).cons h)

/-! ### One transmit step -/

/-- A step of the block in TX, drawn from the agenda, is its transmit step. -/
theorem step_block_tx {s : State} {ans : EmitAnswer} {ms : List Move} (h : s.agenda = .block ans :: ms)
    (hm : s.mode = .tx) : step s = txStep ans { s with agenda := ms } := by
  rw [step_of_agenda h]
  simp [agentStep, blockStep, hm]

/-- ENV answers FAIL: the SEND ends, and RES_COUNT says how many reports went before (R111). -/
theorem step_report_failed {s : State} {r : Bytes} {ms : List Move} (hag : s.agenda = .block .fail :: ms)
    (hm : s.mode = .tx) (hr : s.txPkts[s.txIdx]? = some r) :
    step s = .next { s with
      agenda := ms, mode := .idle, txPkts := [], txIdx := 0
      res := { Safety.neutralResult s.lat.opl .communicationError false with count := s.txIdx } } := by
  rw [step_block_tx hag hm, txStep]
  simp only [hr]
  rfl

/-- ENV accepts the last report: the SEND ends OK (R111). -/
theorem step_last_report {s : State} {r : Bytes} {ms : List Move} (hag : s.agenda = .block .ok :: ms)
    (hm : s.mode = .tx) (hr : s.txPkts[s.txIdx]? = some r) (hlast : s.txIdx + 1 = s.txPkts.length) :
    step s = .next { s with
      agenda := ms, mode := .idle, txPkts := [], txIdx := 0, out := s.out ++ [r]
      res := { Safety.okResult s.lat.opl with count := s.txPkts.length } } := by
  rw [step_block_tx hag hm, txStep]
  simp only [hr, if_pos hlast]
  rfl

/-- ENV accepts a report before the last: the next one is up (R111). -/
theorem step_next_report {s : State} {r : Bytes} {ms : List Move} (hag : s.agenda = .block .ok :: ms)
    (hm : s.mode = .tx) (hr : s.txPkts[s.txIdx]? = some r) (hlast : s.txIdx + 1 ≠ s.txPkts.length) :
    step s = .next { s with agenda := ms, txIdx := s.txIdx + 1, out := s.out ++ [r] } := by
  rw [step_block_tx hag hm, txStep]
  simp only [hr, if_neg hlast]
  rfl

/-- Settles O15: the transmit step of each answer. -/
theorem transmitStepEmitsOneReport : Obligations.TransmitStepEmitsOneReport := by
  intro s r ans ms hag hm hr
  refine ⟨?failed, ?last, ?next⟩
  case failed => rintro rfl; exact step_report_failed hag hm hr
  case last => rintro rfl hlast; exact step_last_report hag hm hr hlast
  case next => rintro rfl hlast; exact step_next_report hag hm hr hlast

/-! ### Runs of transmit steps -/

/-- `k` accepted reports, none of them the last: TX_IDX has moved on and OUT holds them in order (R58, R111). -/
theorem leads_accepted_reports {s : State} {k : Nat} {ms : List Move} (hm : s.mode = .tx)
    (hk : s.txIdx + k < s.txPkts.length) (hag : s.agenda = List.replicate k (.block .ok) ++ ms) :
    Leads k s { s with
      agenda := ms, txIdx := s.txIdx + k, out := s.out ++ (s.txPkts.drop s.txIdx).take k } := by
  induction k generalizing s with
  | zero =>
    obtain rfl : s.agenda = ms := by simpa using hag
    simpa using leads_zero s
  | succ k ih =>
    have hlt : s.txIdx < s.txPkts.length := by omega
    have hstep := step_next_report (ms := List.replicate k (.block .ok) ++ ms) hag hm
      (List.getElem?_eq_getElem hlt) (by omega)
    have hrest := ih (s := { s with
      agenda := List.replicate k (.block .ok) ++ ms, txIdx := s.txIdx + 1, out := s.out ++ [s.txPkts[s.txIdx]] })
      hm (by simp only; omega) rfl
    have hout : (s.txPkts.drop s.txIdx).take (k + 1) =
        s.txPkts[s.txIdx] :: (s.txPkts.drop (s.txIdx + 1)).take k := by
      rw [List.drop_eq_getElem_cons hlt, List.take_succ_cons]
    simpa [hout, Nat.add_assoc, Nat.add_comm 1 k] using hrest.cons hstep

/-- A SEND's first `k` reports are accepted, and more follow (R111). -/
theorem sendStarted_leads {ops : Operands} {s : State} {k : Nat} {ms : List Move}
    (hk : k < (frame (sentMessage ops)).length) (hag : s.agenda = List.replicate k (.block .ok) ++ ms) :
    Leads k (sendStarted ops s) { sendStarted ops s with
      agenda := ms, txIdx := k, out := s.out ++ (frame (sentMessage ops)).take k } := by
  simpa using leads_accepted_reports (s := sendStarted ops s) rfl (by simpa using hk) hag

/-- Settles O16: all reports but the last are accepted, and then the last one. -/
theorem sendDeliversEveryReport : Obligations.SendDeliversEveryReport := by
  intro ops s ms hm hop hw hag
  refine ⟨_, exec_send_starts hm hop hw, ?_⟩
  obtain ⟨n, hn⟩ : ∃ n, (frame (sentMessage ops)).length = n + 1 :=
    Nat.exists_eq_add_one.mpr (frame_length_pos _)
  have hlt : n < (frame (sentMessage ops)).length := by omega
  have hsplit : s.agenda = List.replicate n (.block .ok) ++ .block .ok :: ms := by
    rw [hag, hn, List.replicate_succ', List.append_assoc]; rfl
  have hlast := step_last_report (s := { sendStarted ops s with
      agenda := .block .ok :: ms, txIdx := n, out := s.out ++ (frame (sentMessage ops)).take n })
    rfl rfl (List.getElem?_eq_getElem hlt) hn.symm
  have hrun := (sendStarted_leads hlt hsplit).snoc hlast
  have hall : (frame (sentMessage ops)).take n ++ [(frame (sentMessage ops))[n]] = frame (sentMessage ops) := by
    rw [List.take_append_getElem hlt, ← hn, List.take_length]
  rw [List.append_assoc, hall, ← hn] at hrun
  rw [← packetCount_eq_ceil, ← frame_length]
  exact hrun

/-- Settles O17: `k` reports are accepted, and the next one fails. -/
theorem sendStopsAtTheFirstFailure : Obligations.SendStopsAtTheFirstFailure := by
  intro ops s k ms hm hop hw hk hag
  refine ⟨_, exec_send_starts hm hop hw, ?_⟩
  have hfail := step_report_failed (s := { sendStarted ops s with
      agenda := .block .fail :: ms, txIdx := k, out := s.out ++ (frame (sentMessage ops)).take k })
    rfl rfl (List.getElem?_eq_getElem hk)
  exact (sendStarted_leads hk hag).snoc hfail

end Sys2Proof.Machine
end

section
/-! PROOFS. RECEIVE: one report step in each of its cases, DEADLINE, ENV's append, and from them the reassembly of a
framed message in any interleaving of appends and report steps (40_packetizer.md R106, R116-R123). -/

namespace Sys2Proof.Machine

/-! ### How a RECEIVE ends -/

/-- The result of a RECEIVE that its last fragment ends with the bytes `acc` (R117). -/
def receivedResult (op : Byte) (acc : Bytes) : ResultReg :=
  if acc = [] then { Safety.neutralResult op .emptyMessage false with flag := true }
  else { Safety.okResult op with bytes := acc, flag := true }

theorem receivedResult_empty (op : Byte) :
    receivedResult op [] = { Safety.neutralResult op .emptyMessage false with flag := true } := rfl

theorem receivedResult_bytes {acc : Bytes} (h : acc ≠ []) (op : Byte) :
    receivedResult op acc = { Safety.okResult op with bytes := acc, flag := true } := if_neg h

/-- A RECEIVE that a last fragment ends (R117). -/
theorem completeRx_last (acc : Bytes) (s : State) :
    completeRx acc true s = { s with mode := .idle, res := receivedResult s.lat.opl acc } := by
  cases acc <;> rfl

/-! ### One report step -/

theorem unframe_fragment (r : Bytes) : (unframe r).1 = (Safety.reportFragment r).1 :=
  congrArg Prod.fst (unframe_eq_reportFragment r)

theorem unframe_isLast (r : Bytes) : (unframe r).2.1 = (Safety.reportFragment r).2 :=
  congrArg Prod.snd (unframe_eq_reportFragment r)

/-- A fragment that takes the accumulator over RX_CAP (R119). -/
theorem rxReport_overflow {r : Bytes} {s : State}
    (hw : ¬ Safety.within s.params.rxCap (s.rxAcc.length + (Safety.reportFragment r).1.length)) :
    rxReport r s =
      { s with mode := .idle, rxAcc := [], res := Safety.neutralResult s.lat.opl .rxOverflow false } := by
  rw [rxReport, unframe_fragment, if_pos ((exceeds_iff_not_within _ _).mpr hw)]
  rfl

/-- A fragment within RX_CAP that is not the last (R116). -/
theorem rxReport_continues {r : Bytes} {s : State}
    (hw : Safety.within s.params.rxCap (s.rxAcc.length + (Safety.reportFragment r).1.length))
    (hl : (Safety.reportFragment r).2 = false) :
    rxReport r s = { s with rxAcc := s.rxAcc ++ (Safety.reportFragment r).1 } := by
  simp [rxReport, unframe_fragment, unframe_isLast, (exceeds_eq_false_iff _ _).mpr hw, hl]

/-- A last fragment within RX_CAP (R116, R117). -/
theorem rxReport_ends {r : Bytes} {s : State}
    (hw : Safety.within s.params.rxCap (s.rxAcc.length + (Safety.reportFragment r).1.length))
    (hl : (Safety.reportFragment r).2 = true) :
    rxReport r s = { s with
      mode := .idle, rxLast := true, rxAcc := s.rxAcc ++ (Safety.reportFragment r).1
      res := receivedResult s.lat.opl (s.rxAcc ++ (Safety.reportFragment r).1) } := by
  simp [rxReport, unframe_fragment, unframe_isLast, (exceeds_eq_false_iff _ _).mpr hw, hl, completeRx_last]

/-- A last fragment that ends the RECEIVE with bytes (R117). -/
theorem rxReport_ends_bytes {r : Bytes} {s : State}
    (hw : Safety.within s.params.rxCap (s.rxAcc.length + (Safety.reportFragment r).1.length))
    (hl : (Safety.reportFragment r).2 = true) (hacc : s.rxAcc ++ (Safety.reportFragment r).1 ≠ []) :
    rxReport r s = { s with
      mode := .idle, rxLast := true, rxAcc := s.rxAcc ++ (Safety.reportFragment r).1
      res := { Safety.okResult s.lat.opl with
        bytes := s.rxAcc ++ (Safety.reportFragment r).1, flag := true } } := by
  rw [rxReport_ends hw hl, receivedResult_bytes hacc]

/-- A last fragment that ends the RECEIVE without a byte (R117). -/
theorem rxReport_ends_empty {r : Bytes} {s : State}
    (hw : Safety.within s.params.rxCap (s.rxAcc.length + (Safety.reportFragment r).1.length))
    (hl : (Safety.reportFragment r).2 = true) (hacc : s.rxAcc ++ (Safety.reportFragment r).1 = []) :
    rxReport r s = { s with
      mode := .idle, rxLast := true, rxAcc := []
      res := { Safety.neutralResult s.lat.opl .emptyMessage false with flag := true } } := by
  rw [rxReport_ends hw hl, hacc, receivedResult_empty]

/-- A step of the block in RX, drawn from the agenda, is its report step. -/
theorem step_block_rx {s : State} {ans : EmitAnswer} {ms : List Move} (h : s.agenda = .block ans :: ms)
    (hm : s.mode = .rx) : step s = rxStep { s with agenda := ms } := by
  rw [step_of_agenda h]
  simp [agentStep, blockStep, hm]

/-- With IN_Q empty the report step waits (R116; log 9). -/
theorem step_block_rx_empty {s : State} {ans : EmitAnswer} {ms : List Move} (h : s.agenda = .block ans :: ms)
    (hm : s.mode = .rx) (hq : s.inQ = []) : step s = .next { s with agenda := ms } := by
  rw [step_block_rx h hm]
  simp [rxStep, pop, hq]

/-- With a report in IN_Q the report step takes the head (R116). -/
theorem step_block_rx_report {s : State} {ans : EmitAnswer} {ms : List Move} {r : Bytes} {q : List Bytes}
    (h : s.agenda = .block ans :: ms) (hm : s.mode = .rx) (hq : s.inQ = r :: q) :
    step s = .next (rxReport r { s with agenda := ms, inQ := q }) := by
  rw [step_block_rx h hm]
  simp [rxStep, pop, hq]

/-- Settles O19: the report step waits, or does with the popped report what its fragment says. -/
theorem receiveStepTakesOneReport : Obligations.ReceiveStepTakesOneReport := by
  intro s ans ms hag hm
  refine ⟨step_block_rx_empty hag hm, fun r q hq => ?_⟩
  rw [step_block_rx_report hag hm hq]
  refine ⟨fun hw => ?overflow, fun hw hl => ?continues, fun hw hl hacc => ?bytes, fun hw hl hacc => ?empty⟩
  case overflow => exact congrArg _ (rxReport_overflow hw)
  case continues => exact congrArg _ (rxReport_continues hw hl)
  case bytes => exact congrArg _ (rxReport_ends_bytes hw hl hacc)
  case empty => exact congrArg _ (rxReport_ends_empty hw hl hacc)

/-! ### DEADLINE and ENV's append -/

/-- DEADLINE in any MODE but RX (R118). -/
theorem deadline_of_not_rx {s : State} (h : s.mode ≠ .rx) : deadline s = s := if_neg h

/-- DEADLINE ends a RECEIVE that has bytes (R117, R118). -/
theorem deadline_bytes {s : State} (hm : s.mode = .rx) (hacc : s.rxAcc ≠ []) :
    deadline s = { s with mode := .idle, res := { Safety.okResult s.lat.opl with bytes := s.rxAcc } } := by
  have hlen : 1 ≤ s.rxAcc.length := List.length_pos_iff.mpr hacc
  rw [deadline, if_pos hm, completeRx, if_pos hlen]
  rfl

/-- DEADLINE ends a RECEIVE that has none (R117, R118). -/
theorem deadline_timeout {s : State} (hm : s.mode = .rx) (hacc : s.rxAcc = []) :
    deadline s = { s with mode := .idle, res := Safety.neutralResult s.lat.opl .timeout false } := by
  have hlen : ¬ 1 ≤ s.rxAcc.length := by simp [hacc]
  rw [deadline, if_pos hm, completeRx, if_neg hlen]
  rfl

/-- Settles O20: DEADLINE completes a RECEIVE with what it has, and leaves any other MODE alone. -/
theorem deadlineEndsOnlyAReceive : Obligations.DeadlineEndsOnlyAReceive := by
  intro s ms hag
  have hstep : step s = .next (deadline { s with agenda := ms }) := step_of_agenda hag
  rw [hstep]
  refine ⟨fun hm hacc => ?bytes, fun hm hacc => ?timeout, fun hm => ?other⟩
  case bytes => exact congrArg _ (deadline_bytes hm hacc)
  case timeout => exact congrArg _ (deadline_timeout hm hacc)
  case other => exact congrArg _ (deadline_of_not_rx hm)

/-- ENV's append, drawn from the agenda (R120). -/
theorem step_append {s : State} {r : Bytes} {ms : List Move} (h : s.agenda = .append r :: ms) :
    step s = .next (envAppend r { s with agenda := ms }) := step_of_agenda h

/-- An append with room for the report (R120). -/
theorem envAppend_room {r : Bytes} {s : State} (h : Safety.within s.params.inqCap (s.inQ.length + 1)) :
    envAppend r s = { s with inQ := s.inQ ++ [r] } := by
  simp [envAppend, (exceeds_eq_false_iff _ _).mpr h]

/-- An append to a full queue (R120). -/
theorem envAppend_full {r : Bytes} {s : State} (h : ¬ Safety.within s.params.inqCap (s.inQ.length + 1)) :
    envAppend r s = s := by
  simp [envAppend, (exceeds_iff_not_within _ _).mpr h]

/-- Settles O21: the queue has room for one more report exactly while it is shorter than INQ_CAP. -/
theorem envAppendGoesToTheTail : Obligations.EnvAppendGoesToTheTail := by
  intro s r ms hag
  rw [step_append hag]
  refine ⟨fun hroom => congrArg _ (envAppend_room hroom), fun cap hcap hfull => congrArg _ (envAppend_full ?_)⟩
  intro hw
  have hle : s.inQ.length + 1 ≤ cap := hw cap hcap
  omega

/-! ### Reassembly -/

/-- A RECEIVE in flight that nothing bounds and no command waits for. -/
structure Unhindered (s : State) : Prop where
  mode : s.mode = .rx
  port : s.port = []
  rxCap : s.params.rxCap = none
  inqCap : s.params.inqCap = none

/-- The RECEIVE begun in `s`, after `k` reports of `frame m`: in flight with their chunks, or ended after the last one
(R116, R117). `q` stands in IN_Q and `moves` on the agenda. -/
def reassembling (s : State) (m : Bytes) (k : Nat) (q : List Bytes) (moves : List Move) : State :=
  if k < packetCount m.length then { s with rxAcc := m.take (63 * k), inQ := q, agenda := moves }
  else { s with
    mode := .idle, rxAcc := m, rxLast := true, inQ := q, agenda := moves, res := receivedResult s.lat.opl m }

theorem reassembling_of_lt {s : State} {m : Bytes} {k : Nat} (h : k < packetCount m.length) (q : List Bytes)
    (moves : List Move) :
    reassembling s m k q moves = { s with rxAcc := m.take (63 * k), inQ := q, agenda := moves } := if_pos h

theorem reassembling_of_le {s : State} {m : Bytes} {k : Nat} (h : packetCount m.length ≤ k) (q : List Bytes)
    (moves : List Move) :
    reassembling s m k q moves = { s with
      mode := .idle, rxAcc := m, rxLast := true, inQ := q, agenda := moves
      res := receivedResult s.lat.opl m } := if_neg (Nat.not_lt.mpr h)

/-- ENV's append joins the queue, whether the RECEIVE has ended or not (R120). -/
theorem reassembling_append {s : State} (hs : Unhindered s) (m : Bytes) (k : Nat) (q : List Bytes) (r : Bytes)
    (moves : List Move) :
    step (reassembling s m k q (.append r :: moves)) = .next (reassembling s m k (q ++ [r]) moves) := by
  have hroom : ∀ n, Safety.within s.params.inqCap n := by simp [hs.inqCap, Safety.within]
  obtain hk | hk := Nat.lt_or_ge k (packetCount m.length)
  · simp only [reassembling_of_lt hk]
    exact Eq.trans (step_append rfl) (congrArg _ (envAppend_room (hroom _)))
  · simp only [reassembling_of_le hk]
    exact Eq.trans (step_append rfl) (congrArg _ (envAppend_room (hroom _)))

/-- With nothing in IN_Q the block's step waits: for a report, or, once the RECEIVE has ended, for a command (log 9). -/
theorem reassembling_wait {s : State} (hs : Unhindered s) (m : Bytes) (k : Nat) (ans : EmitAnswer)
    (moves : List Move) :
    step (reassembling s m k [] (.block ans :: moves)) = .next (reassembling s m k [] moves) := by
  obtain hk | hk := Nat.lt_or_ge k (packetCount m.length)
  · simp only [reassembling_of_lt hk]
    exact step_block_rx_empty rfl hs.mode rfl
  · simp only [reassembling_of_le hk]
    rw [step_block_idle rfl rfl]
    simp [acceptStep, hs.port]

/-- Fragment and is_last of a packet (R105). -/
theorem reportFragment_packet (p : Bytes) {k : Nat} (hk : k < packetCount p.length) :
    Safety.reportFragment (packet p k) = ((p.drop (63 * k)).take 63, decide (k + 1 = packetCount p.length)) := by
  rw [← unframe_eq_reportFragment, unframe_packet_last p hk, unframe_packet]

/-- The block's step takes the next report of the frame: its chunk joins the accumulator, and the last one ends the
RECEIVE with the whole message (R116, R117). -/
theorem reassembling_report {s : State} (hs : Unhindered s) {m : Bytes} {k : Nat} (hk : k < packetCount m.length)
    (q : List Bytes) (ans : EmitAnswer) (moves : List Move) :
    step (reassembling s m k (packet m k :: q) (.block ans :: moves)) = .next (reassembling s m (k + 1) q moves) := by
  have hwithin : ∀ n, Safety.within s.params.rxCap n := by simp [hs.rxCap, Safety.within]
  have hacc : m.take (63 * k) ++ (Safety.reportFragment (packet m k)).1 = m.take (63 * (k + 1)) := by
    rw [reportFragment_packet m hk, Nat.mul_succ, List.take_add]
  rw [reassembling_of_lt hk]
  refine Eq.trans (step_block_rx_report rfl hs.mode rfl) (congrArg _ ?_)
  obtain hlast | hlast := Nat.lt_or_ge (k + 1) (packetCount m.length)
  · have hl : (Safety.reportFragment (packet m k)).2 = false := by
      rw [reportFragment_packet m hk, decide_eq_false (Nat.ne_of_lt hlast)]
    rw [reassembling_of_lt hlast, ← hacc]
    exact rxReport_continues (hwithin _) hl
  · have hend : k + 1 = packetCount m.length := by omega
    have hl : (Safety.reportFragment (packet m k)).2 = true := by
      rw [reportFragment_packet m hk, decide_eq_true hend]
    have hwhole : m.take (63 * (k + 1)) = m := List.take_of_length_le (hend ▸ length_le_packetCount _)
    rw [reassembling_of_le hlast]
    exact Eq.trans (rxReport_ends (hwithin _) hl) (by simp only [hacc, hwhole])

/-- The reports of a frame from `k` on are packet `k` and those after it. -/
theorem drop_frame (m : Bytes) {k : Nat} (hk : k < packetCount m.length) :
    (frame m).drop k = packet m k :: (frame m).drop (k + 1) := by
  rw [List.drop_eq_getElem_cons (by simpa using hk)]
  simp [frame]

/-- When the frame's reports in IN_Q are the ones still to come, the block's step takes the next of them if there is
one; those in IN_Q and those still to be appended remain the ones to come. -/
theorem reassembling_block {s : State} (hs : Unhindered s) {m : Bytes} {k : Nat} {q later : List Bytes}
    (h : q ++ later = (frame m).drop k) (ans : EmitAnswer) (moves : List Move) :
    ∃ j q', step (reassembling s m k q (.block ans :: moves)) = .next (reassembling s m j q' moves) ∧
      q' ++ later = (frame m).drop j := by
  cases q with
  | nil => exact ⟨k, [], reassembling_wait hs m k ans moves, h⟩
  | cons r q =>
    obtain hk | hk := Nat.lt_or_ge k (packetCount m.length)
    · rw [drop_frame m hk, List.cons_append] at h
      obtain ⟨rfl, hrest⟩ := List.cons.inj h
      exact ⟨k + 1, q, reassembling_report hs hk q ans moves, hrest⟩
    · rw [List.drop_of_length_le (by simpa using hk)] at h
      cases h

/-- Any interleaving of appends and block steps that brings the rest of the frame leaves the RECEIVE with some of its
reports taken and the others in IN_Q. -/
theorem reassembling_interleaved {s : State} (hs : Unhindered s) {m : Bytes} {ms : List Move}
    (hms : ∀ x ∈ ms, Safety.appendOrBlock x = true) (rest : List Move) {k : Nat} {q : List Bytes}
    (h : q ++ ms.filterMap Safety.appended = (frame m).drop k) :
    ∃ j, Leads ms.length (reassembling s m k q (ms ++ rest)) (reassembling s m j ((frame m).drop j) rest) := by
  induction ms generalizing k q with
  | nil =>
    obtain rfl : q = (frame m).drop k := by simpa using h
    exact ⟨k, leads_zero _⟩
  | cons x ms ih =>
    obtain ⟨hx, hrest⟩ := List.forall_mem_cons.mp hms
    cases x with
    | append r =>
      obtain ⟨j, hj⟩ := ih hrest (k := k) (q := q ++ [r]) (by simpa [Safety.appended] using h)
      exact ⟨j, hj.cons (reassembling_append hs m k q r (ms ++ rest))⟩
    | block ans =>
      obtain ⟨i, q', hstep, hq'⟩ := reassembling_block hs (by simpa [Safety.appended] using h) ans (ms ++ rest)
      obtain ⟨j, hj⟩ := ih hrest hq'
      exact ⟨j, hj.cons hstep⟩
    | present | read | deadline | linkOpen => cases hx

/-- Nothing of a frame is left after its last report. -/
theorem drop_frame_of_le (m : Bytes) {k : Nat} (hk : packetCount m.length ≤ k) : (frame m).drop k = [] :=
  List.drop_of_length_le ((frame_length m).trans_le hk)

/-- Block steps alone, at least as many as there are reports in IN_Q, take them all and end the RECEIVE. -/
theorem reassembling_drains {s : State} (hs : Unhindered s) {m : Bytes} (rest : List Move) {k n : Nat}
    (hn : packetCount m.length ≤ k + n) :
    Leads n (reassembling s m k ((frame m).drop k) (List.replicate n (.block .ok) ++ rest))
      (reassembling s m (packetCount m.length) [] rest) := by
  induction n generalizing k with
  | zero =>
    have hk : packetCount m.length ≤ k := hn
    rw [drop_frame_of_le m hk, reassembling_of_le hk, reassembling_of_le le_rfl]
    exact leads_zero _
  | succ n ih =>
    obtain hk | hk := Nat.lt_or_ge k (packetCount m.length)
    · rw [drop_frame m hk]
      exact (ih (by omega)).cons (reassembling_report hs hk _ .ok _)
    · have hwaits := ih (k := k) (by omega)
      rw [drop_frame_of_le m hk] at hwaits ⊢
      exact hwaits.cons (reassembling_wait hs m k .ok _)

/-- The RECEIVE before its first report. -/
theorem reassembling_zero {s : State} (hacc : s.rxAcc = []) (hq : s.inQ = []) (m : Bytes) :
    reassembling s m 0 [] s.agenda = s := by
  rw [reassembling_of_lt (Nat.le_max_left 1 _), Nat.mul_zero, List.take_zero, ← hacc, ← hq]

/-- Settles O22: the appends and block steps leave the frame's untaken reports in IN_Q, and the block steps behind them
take those. -/
theorem receiveReassemblesTheMessage : Obligations.ReceiveReassemblesTheMessage := by
  intro s m ms rest hm hacc hq hport hrx hinq hms hframe hag
  have hs : Unhindered s := ⟨hm, hport, hrx, hinq⟩
  obtain ⟨j, hj⟩ := reassembling_interleaved hs hms (List.replicate (frame m).length (.block .ok) ++ rest) (k := 0)
    (q := []) (by simpa using hframe)
  have hrun := hj.append (reassembling_drains hs rest (by rw [frame_length]; omega))
  rw [← hag, reassembling_zero hacc hq, reassembling_of_le le_rfl, ← hq] at hrun
  exact hrun

end Sys2Proof.Machine
end

section
/-! PROOFS. NORMALIZE and VALIDATE: the normal form of a text, which the normal form keeps, and the error that a text
has (41_track_codec.md R141-R146). -/

namespace Sys2Proof.Machine

/-! ### The normal form -/

/-- The text whose sentinel runs NORMALIZE strips: the operand, upper-cased on track 1 (R142). -/
def casedText (t : Track) (s : Bytes) : Bytes :=
  match t with
  | .t1 => s.map upperByte
  | .t2 => s
  | .t3 => s

theorem norm_eq (p : Config.Params) (t : Track) (s : Bytes) :
    norm p t s = stripTrailing 0x3F#8 ((casedText t s).dropWhile (· == (trackSpec p t).start)) := by
  cases t <;> rfl

/-- A text is a run of a byte and what is left of it, and what is left does not start with that byte. -/
theorem dropWhile_spec (c : Byte) (s : Bytes) :
    (∃ i, s = List.replicate i c ++ s.dropWhile (· == c)) ∧ (s.dropWhile (· == c)).head? ≠ some c := by
  have hrun : s.takeWhile (· == c) = List.replicate (s.takeWhile (· == c)).length c :=
    List.eq_replicate_iff.mpr ⟨rfl, fun b hb => by simpa using List.mem_takeWhile_imp hb⟩
  refine ⟨⟨(s.takeWhile (· == c)).length, ?_⟩, fun hhead => ?_⟩
  · rw [← hrun, List.takeWhile_append_dropWhile]
  · have hnot := List.head?_dropWhile_not (· == c) s
    rw [hhead] at hnot
    simp at hnot

/-- The cased text is the normal form between a run of start sentinels and a run of '?', and the normal form does not
take part in these runs. -/
theorem norm_spec (p : Config.Params) (t : Track) (s : Bytes) :
    (norm p t s).head? ≠ some (trackSpec p t).start ∧ (norm p t s).getLast? ≠ some 0x3F#8 ∧
    ∃ i j, casedText t s =
      List.replicate i (trackSpec p t).start ++ norm p t s ++ List.replicate j 0x3F#8 := by
  obtain ⟨⟨i, hi⟩, hhead⟩ := dropWhile_spec (trackSpec p t).start (casedText t s)
  obtain ⟨⟨j, hj⟩, hlast⟩ := stripTrailing_spec 0x3F#8 ((casedText t s).dropWhile (· == (trackSpec p t).start))
  rw [← norm_eq] at hj hlast
  refine ⟨fun hstart => hhead ?_, hlast, i, j, ?_⟩
  · rw [hj, List.head?_append, hstart]
    rfl
  · rw [List.append_assoc, ← hj, ← hi]

/-! ### Normalizing again -/

theorem upperByte_upperByte : ∀ b : Byte, upperByte (upperByte b) = upperByte b := by decide

/-- Bytes taken from a cased text are cased. -/
theorem casedText_of_subset {t : Track} {s u : Bytes} (h : u ⊆ casedText t s) : casedText t u = u := by
  cases t with
  | t1 =>
    refine (List.map_congr_left fun b hb => ?_).trans (List.map_id u)
    obtain ⟨c, -, rfl⟩ := List.mem_map.mp (h hb)
    exact upperByte_upperByte c
  | t2 => rfl
  | t3 => rfl

/-- The normal form's bytes are those of the cased text. -/
theorem norm_subset (p : Config.Params) (t : Track) (s : Bytes) : norm p t s ⊆ casedText t s := by
  obtain ⟨-, -, i, j, h⟩ := norm_spec p t s
  rw [h]
  exact fun b hb => List.mem_append_left _ (List.mem_append_right _ hb)

theorem dropWhile_eq_self_of_head? {c : Byte} {s : Bytes} (h : s.head? ≠ some c) : s.dropWhile (· == c) = s := by
  cases s with
  | nil => rfl
  | cons b s => exact List.dropWhile_cons_of_neg (by simpa using h)

theorem stripTrailing_eq_self {e : Byte} {s : Bytes} (h : s.getLast? ≠ some e) : stripTrailing e s = s := by
  rw [stripTrailing, dropWhile_eq_self_of_head? (by rwa [List.head?_reverse]), List.reverse_reverse]

/-- Settles O25: the normal form is cased and has no run to strip at either end. -/
theorem normalizeIsIdempotent : Obligations.NormalizeIsIdempotent := by
  intro p t s
  obtain ⟨hhead, hlast, -⟩ := norm_spec p t s
  rw [norm_eq p t (norm p t s), casedText_of_subset (norm_subset p t s), dropWhile_eq_self_of_head? hhead,
    stripTrailing_eq_self hlast]

/-! ### The track number -/

/-- The command word of an OP and an ARG (R80). -/
theorem mkWord_eq_or (o : OpCode) (b : Byte) :
    mkWord o.code b = (o.code.zeroExtend 16 <<< 8) ||| b.zeroExtend 16 := by
  rw [mkWord, BitVec.append_def, BitVec.shiftLeftZeroExtend_eq, BitVec.setWidth'_eq]

/-- R82's list holds the numbers of the tracks. -/
theorem exists_track_byte {b : Byte} (h : b ∈ [0x01#8, 0x02#8, 0x03#8]) : ∃ t : Track, b = t.byte := by
  cases ht : Track.ofByte b with
  | none => exact absurd h ((track_ofByte_eq_none_iff b).mp ht)
  | some t => exact ⟨t, track_byte_of_ofByte ht⟩

/-- A command whose ARG its operation does not take finishes InvalidFormat in IDLE, latched (R141, R232; log 29). -/
theorem accept_illegal_latched {o : OpCode} {arg : Byte} {ops : Operands} {f : State → State} {s : State}
    (hm : s.mode = .idle) (ha : o.argLegal arg = false) :
    accept o arg ops f s = .next { s with
      lat := Safety.latched o.code arg ops, res := Safety.invalidFormatResult o.code } := by
  rw [accept_illegal hm ha, finish_invalidFormat_latch _ _ _ hm]

/-! ### NORMALIZE -/

/-- NORMALIZE of a track in IDLE completes with the normal form of operand A (R142). -/
theorem exec_normalize (t : Track) (ops : Operands) {s : State} (hm : s.mode = .idle) :
    exec (.normalize t.byte ops) s = .next { s with
      lat := Safety.latched 0x10#8 t.byte ops
      res := { Safety.okResult 0x10#8 with bytes := norm s.params t (ops.a.getD []) } } := by
  have hrun : exec (.normalize t.byte ops) s = .next (performNormalize (latch 0x10#8 t.byte ops s)) :=
    accept_legal hm (by simp [OpCode.argLegal])
  rw [hrun, performNormalize]
  simp only [latch_lat, latch_params, captured_argl, captured_a, track_ofByte_byte]
  exact congrArg _ (finish_latch_of_idle _ _ _ _ _ hm)

/-- Settles O24: the result is the normal form, which stands between the two runs. -/
theorem normalizeStripsTheSentinelRuns : Obligations.NormalizeStripsTheSentinelRuns := by
  intro b ops s hm
  refine ⟨mkWord_eq_or .normalize b, fun hb => ?track, fun hb => ?noTrack⟩
  case track =>
    obtain ⟨t, rfl⟩ := exists_track_byte hb
    obtain ⟨hhead, hlast, hruns⟩ := norm_spec s.params t (ops.a.getD [])
    refine ⟨_, exec_normalize t ops hm, ?_, hlast, ?_⟩
    · cases t <;> exact hhead
    · cases t <;> exact hruns
  case noTrack =>
    have hillegal : OpCode.normalize.argLegal b = false := by
      simp [OpCode.argLegal, (track_ofByte_eq_none_iff b).mpr hb]
    exact accept_illegal_latched hm hillegal

/-! ### VALIDATE -/

theorem validate_eq_length {p : Config.Params} {t : Track} {x : Bytes} (h : (trackSpec p t).maxLen < x.length) :
    validate p t x = .length := if_pos h

theorem validate_eq_charset {p : Config.Params} {t : Track} {x : Bytes} (hl : x.length ≤ (trackSpec p t).maxLen)
    (hc : ∃ b ∈ x, ¬ inCharset p t b = true) : validate p t x = .charset := by
  rw [validate, if_neg (by omega), if_neg (by simpa using hc)]

theorem validate_eq_none_iff {p : Config.Params} {t : Track} {x : Bytes} :
    validate p t x = .none ↔ x.length ≤ (trackSpec p t).maxLen ∧ ∀ b ∈ x, inCharset p t b = true := by
  unfold validate
  split
  · exact ⟨nofun, fun ⟨hle, _⟩ => by omega⟩
  · split <;> simp_all

/-- The characters of a track, by its number (R36, R37). -/
theorem inCharset_iff (p : Config.Params) (t : Track) (b : Byte) :
    inCharset p t b = true ↔
      if t.byte = 0x01#8 then 0x20 ≤ b.toNat ∧ b.toNat ≤ 0x5F
      else (0x30 ≤ b.toNat ∧ b.toNat ≤ 0x3F) ∨ b = 0x25#8 := by
  cases t with
  | t1 => exact charsetHas_cs1_iff b
  | t2 => exact charsetHas_cs23_iff b
  | t3 => exact charsetHas_cs23_iff b

/-- VALIDATE of a track in IDLE completes with the error of operand A (R146). -/
theorem exec_validate (t : Track) (ops : Operands) {s : State} (hm : s.mode = .idle) {e : TrackErr}
    (he : validate s.params t (ops.a.getD []) = e) :
    exec (.validate t.byte ops) s = .next { s with
      lat := Safety.latched 0x11#8 t.byte ops
      res := { Safety.okResult 0x11#8 with flag := e == .none, err := e } } := by
  have hrun : exec (.validate t.byte ops) s = .next (performValidate (latch 0x11#8 t.byte ops s)) :=
    accept_legal hm (by simp [OpCode.argLegal])
  rw [hrun, performValidate]
  simp only [latch_lat, latch_params, captured_argl, captured_a, track_ofByte_byte, he]
  exact congrArg _ (finish_latch_of_idle _ _ _ _ _ hm)

/-- The track numbers with their longest texts are those of the TrackSpec table (R35). -/
theorem exists_track_of_mem_maxLens {p : Config.Params} {q : Byte × Nat}
    (h : q ∈ [(0x01#8, p.maxLen1), (0x02#8, p.maxLen2), (0x03#8, p.maxLen3)]) :
    ∃ t : Track, q = (t.byte, (trackSpec p t).maxLen) := by
  obtain rfl | rfl | rfl : q = _ ∨ q = _ ∨ q = _ := by simpa using h
  · exact ⟨.t1, rfl⟩
  · exact ⟨.t2, rfl⟩
  · exact ⟨.t3, rfl⟩

/-- Settles O26: VALIDATE's result carries the error of the text, LENGTH before CHARSET. -/
theorem validateReportsLengthThenCharset : Obligations.ValidateReportsLengthThenCharset := by
  intro b ops s hm
  refine ⟨mkWord_eq_or .validate b, fun q hq hb => ?track, fun hb => ?noTrack⟩
  case track =>
    obtain ⟨t, rfl⟩ := exists_track_of_mem_maxLens hq
    obtain rfl : b = t.byte := hb
    simp only [← inCharset_iff s.params t]
    exact ⟨fun hlong => exec_validate t ops hm (validate_eq_length hlong),
      fun hshort hout => exec_validate t ops hm (validate_eq_charset hshort hout),
      fun hshort hin => exec_validate t ops hm (validate_eq_none_iff.mpr ⟨hshort, hin⟩)⟩
  case noTrack =>
    have hillegal : OpCode.validate.argLegal b = false := by
      simp [OpCode.argLegal, (track_ofByte_eq_none_iff b).mpr hb]
    exact accept_illegal_latched hm hillegal

end Sys2Proof.Machine
end

section
/-! PROOFS. Where the slice of a track stands in a response, and the records that PARSE_ISO and PARSE_RAW make of the
slices (41_track_codec.md R160-R166). -/

namespace Sys2Proof.Machine

/-! ### Where a slice stands -/

/-- A position up to which nothing of TERMS stands, and at which one of them stands or the response ends, is where the
slice ends (R160). -/
theorem sliceEnd_eq {resp : Bytes} {a e : Nat} (hae : a ≤ e) (he : e ≤ resp.length)
    (hnone : ∀ j, a ≤ j → j < e → ∀ p ∈ terms, ¬ p <+: resp.drop j)
    (hend : e = resp.length ∨ ∃ p ∈ terms, p <+: resp.drop e) : sliceEnd resp a = e := by
  obtain ⟨hle, hlen, hbefore, hstop⟩ := sliceEnd_spec resp a (hae.trans he)
  obtain hlt | heq | hgt := Nat.lt_trichotomy (sliceEnd resp a) e
  · obtain hstop | ⟨p, hp, hpre⟩ := hstop
    · omega
    · exact absurd hpre (hnone _ hle hlt p hp)
  · exact heq
  · obtain hend | ⟨p, hp, hpre⟩ := hend
    · omega
    · exact absurd hpre (hbefore e hae hgt p hp)

/-- A track's marker takes two bytes of the response. -/
theorem marker_within {resp : Bytes} {t : Track} {m : Nat} (h : trackMarker t <+: resp.drop m) :
    m + 2 ≤ resp.length := by
  have hlen := h.length_le
  rw [List.length_drop] at hlen
  simp only [trackMarker, List.length_cons, List.length_nil] at hlen
  omega

/-- The first marker of a track (R160). -/
theorem find_marker_eq_some_iff {resp : Bytes} {t : Track} {m : Nat} : find resp (trackMarker t) 0 = some m ↔
    trackMarker t <+: resp.drop m ∧ ∀ j, j < m → ¬ trackMarker t <+: resp.drop j := by
  rw [find_eq_some_iff]
  constructor
  · rintro ⟨-, hm, hmin⟩
    exact ⟨hm, fun j hj hpre => by have := hmin j (Nat.zero_le j) hpre; omega⟩
  · rintro ⟨hm, hfirst⟩
    exact ⟨Nat.zero_le m, hm, fun j _ hpre => Nat.not_lt.mp fun hj => hfirst j hj hpre⟩

theorem find_marker_eq_none_iff {resp : Bytes} {t : Track} :
    find resp (trackMarker t) 0 = none ↔ ∀ j, ¬ trackMarker t <+: resp.drop j := by
  rw [find_eq_none_iff (by simp [trackMarker])]
  simp

theorem sliceBounds_eq_some_iff {resp : Bytes} {t : Track} {x : Nat × Nat} : sliceBounds resp t = some x ↔
    ∃ m, find resp (trackMarker t) 0 = some m ∧ x = (m + 2, sliceEnd resp (m + 2)) := by
  simp [sliceBounds, eq_comm]

theorem slice_eq_some_iff {resp : Bytes} {t : Track} {d : Bytes} : slice resp t = some d ↔
    ∃ m, find resp (trackMarker t) 0 = some m ∧
      d = (resp.drop (m + 2)).take (sliceEnd resp (m + 2) - (m + 2)) := by
  simp [slice, sliceBounds, memRead, eq_comm]

theorem slice_eq_none_iff {resp : Bytes} {t : Track} :
    slice resp t = none ↔ ∀ j, ¬ trackMarker t <+: resp.drop j := by
  rw [← find_marker_eq_none_iff]
  simp [slice, sliceBounds]

/-- Settles O31: the first marker and the end of its slice are the positions that R160 describes. -/
theorem sliceRunsFromMarkerToTerminator : Obligations.SliceRunsFromMarkerToTerminator := by
  refine fun resp t => ⟨slice_eq_none_iff, fun d => slice_eq_some_iff.trans ⟨?_, ?_⟩⟩
  · rintro ⟨m, hm, hd⟩
    obtain ⟨hpre, hfirst⟩ := find_marker_eq_some_iff.mp hm
    obtain ⟨hle, hlen, hnone, hend⟩ := sliceEnd_spec resp (m + 2) (marker_within hpre)
    exact ⟨m, sliceEnd resp (m + 2), hpre, hfirst, hle, hlen, hnone, hend, hd⟩
  · rintro ⟨m, e, hpre, hfirst, hle, hlen, hnone, hend, hd⟩
    refine ⟨m, find_marker_eq_some_iff.mpr ⟨hpre, hfirst⟩, ?_⟩
    rw [sliceEnd_eq hle hlen hnone hend]
    exact hd

/-! ### Slices of different tracks -/

theorem trackMarker_mem_terms (t : Track) : trackMarker t ∈ terms := by cases t <;> decide

theorem track_byte_ne_esc (t : Track) : t.byte ≠ Config.esc := by cases t <;> decide

theorem track_byte_inj {t u : Track} (h : t.byte = u.byte) : t = u := by
  have hsome : some t = some u := by rw [← track_ofByte_byte t, h, track_ofByte_byte]
  exact Option.some.inj hsome

/-- The markers of two different tracks share no byte. -/
theorem markers_apart {resp : Bytes} {t u : Track} {m k : Nat} (htu : t ≠ u) (hm : trackMarker t <+: resp.drop m)
    (hk : trackMarker u <+: resp.drop k) : m + 2 ≤ k ∨ k + 2 ≤ m := by
  obtain ⟨hm0, hm1⟩ := pair_prefix_drop hm
  obtain ⟨hk0, hk1⟩ := pair_prefix_drop hk
  have hne : m ≠ k := by
    rintro rfl
    exact htu (track_byte_inj (Option.some.inj (hm1.symm.trans hk1)))
  have hne' : m + 1 ≠ k := by
    rintro rfl
    exact track_byte_ne_esc t (Option.some.inj (hm1.symm.trans hk0))
  have hne'' : k + 1 ≠ m := by
    rintro rfl
    exact track_byte_ne_esc u (Option.some.inj (hk1.symm.trans hm0))
  omega

/-- A slice ends at the latest at a marker that stands behind its start. -/
theorem sliceEnd_le_marker {resp : Bytes} {u : Track} {a k : Nat} (hak : a ≤ k) (hk : trackMarker u <+: resp.drop k) :
    sliceEnd resp a ≤ k := by
  have hlen := marker_within hk
  obtain ⟨-, -, hnone, -⟩ := sliceEnd_spec resp a (by omega)
  exact Nat.not_lt.mp fun hlt => hnone k hak hlt _ (trackMarker_mem_terms u) hk

/-- Settles O32: the marker that stands first has its slice end at the latest at the other one. -/
theorem slicesOfTracksNeverOverlap : Obligations.SlicesOfTracksNeverOverlap := by
  intro resp t u x y htu hx hy
  obtain ⟨m, hm, rfl⟩ := sliceBounds_eq_some_iff.mp hx
  obtain ⟨k, hk, rfl⟩ := sliceBounds_eq_some_iff.mp hy
  obtain ⟨hm, -⟩ := find_marker_eq_some_iff.mp hm
  obtain ⟨hk, -⟩ := find_marker_eq_some_iff.mp hk
  obtain ⟨hmle, hmlen, -⟩ := sliceEnd_spec resp (m + 2) (marker_within hm)
  obtain ⟨hkle, hklen, -⟩ := sliceEnd_spec resp (k + 2) (marker_within hk)
  refine ⟨hmle, hmlen, hkle, hklen, ?_⟩
  obtain hmk | hkm := markers_apart htu hm hk
  · exact .inl (Nat.add_le_add_right (sliceEnd_le_marker hmk hk) 2)
  · exact .inr (Nat.add_le_add_right (sliceEnd_le_marker hkm hm) 2)

/-! ### PARSE_RAW -/

/-- PARSE_RAW in IDLE completes with the records of operand A (R165). -/
theorem exec_parseRaw (ops : Operands) {s : State} (hm : s.mode = .idle) :
    exec (.parseRaw ops) s = .next { s with
      lat := Safety.latched 0x15#8 0x00#8 ops
      res := { Safety.okResult 0x15#8 with recs := parseRaw (ops.a.getD []) } } := by
  have hrun : exec (.parseRaw ops) s = .next (performParseRaw (latch 0x15#8 0x00#8 ops s)) := accept_legal hm rfl
  rw [hrun, performParseRaw, latch_lat, captured_a]
  exact congrArg _ (finish_latch_of_idle _ _ _ _ _ hm)

/-- Settles O34: the records are those of the tracks that have a slice. -/
theorem parseRawKeepsEverySlice : Obligations.ParseRawKeepsEverySlice := by
  intro ops s hm
  obtain ⟨hsub, hmem⟩ := filterMap_tracks_spec (g := fun t => (slice (ops.a.getD []) t).map (rawRecord t))
    fun t r h => by obtain ⟨sl, -, rfl⟩ := Option.map_eq_some_iff.mp h; rfl
  refine ⟨rfl, _, exec_parseRaw ops hm, hsub, fun t r => (hmem t r).trans ?_⟩
  rw [Option.map_eq_some_iff]
  exact exists_congr fun sl => and_congr_right fun _ => eq_comm

/-! ### PARSE_ISO -/

/-- PARSE_ISO in IDLE completes with the records of operand A (R161). -/
theorem exec_parseIso (ops : Operands) {s : State} (hm : s.mode = .idle) :
    exec (.parseIso ops) s = .next { s with
      lat := Safety.latched 0x14#8 0x00#8 ops
      res := { Safety.okResult 0x14#8 with recs := parseIso s.params (ops.a.getD []) } } := by
  have hrun : exec (.parseIso ops) s = .next (performParseIso (latch 0x14#8 0x00#8 ops s)) := accept_legal hm rfl
  rw [hrun, performParseIso, latch_lat, latch_params, captured_a]
  exact congrArg _ (finish_latch_of_idle _ _ _ _ _ hm)

/-- A slice with a byte above 7F does not decode (R162). -/
theorem isoRecord_of_high_byte (p : Config.Params) (t : Track) {sl : Bytes} (h : ∃ b ∈ sl, 0x80 ≤ b.toNat) :
    isoRecord p t sl = ⟨t, [], false, .decode⟩ := by
  rw [isoRecord, if_pos (by simpa using h)]

/-- A byte that PARSE_ISO keeps (R162). -/
theorem not_isControl (b : Byte) : (!isControl b) = decide (0x20 ≤ b.toNat ∧ b.toNat ≠ 0x7F) := by
  rw [isControl, ← decide_not, decide_eq_decide]
  omega

/-- A slice of 7-bit bytes gives its text, with the validation of that text (R162). -/
theorem isoRecord_of_low_bytes (p : Config.Params) (t : Track) {sl x : Bytes} (h : ∀ b ∈ sl, b.toNat < 0x80)
    (hx : x = sl.filter fun b => 0x20 ≤ b.toNat ∧ b.toNat ≠ 0x7F) :
    isoRecord p t sl = ⟨t, x, decide (validate p t x = .none), validate p t x⟩ := by
  have hlow : ¬ (sl.any fun b => decide (0x80 ≤ b.toNat)) = true := by simpa using h
  rw [isoRecord, if_neg hlow, hx]
  simp only [not_isControl]
  rfl

/-- What a record must be to be the one of an ISO slice: the two cases exclude each other, and one of them holds. -/
theorem isoRecord_eq_iff (p : Config.Params) (t : Track) (sl : Bytes) (r : TrackRecord) : isoRecord p t sl = r ↔
    ((∃ b ∈ sl, 0x80 ≤ b.toNat) → r = ⟨t, [], false, .decode⟩) ∧
    ((∀ b ∈ sl, b.toNat < 0x80) → ∃ x, x = sl.filter (fun b => 0x20 ≤ b.toNat ∧ b.toNat ≠ 0x7F) ∧
      r = ⟨t, x, decide (validate p t x = .none), validate p t x⟩) := by
  by_cases h : ∃ b ∈ sl, 0x80 ≤ b.toNat
  · have hnot : ¬ ∀ b ∈ sl, b.toNat < 0x80 := by simpa using h
    rw [isoRecord_of_high_byte p t h]
    exact ⟨fun hr => ⟨fun _ => hr.symm, fun hlow => absurd hlow hnot⟩, fun ⟨hhigh, _⟩ => (hhigh h).symm⟩
  · have hlow : ∀ b ∈ sl, b.toNat < 0x80 := by simpa using h
    rw [isoRecord_of_low_bytes p t hlow rfl]
    refine ⟨fun hr => ⟨fun hhigh => absurd hhigh h, fun _ => ⟨_, rfl, hr.symm⟩⟩, fun ⟨_, hdecoded⟩ => ?_⟩
    obtain ⟨x, rfl, hr⟩ := hdecoded hlow
    exact hr.symm

/-- Settles O33: the records are those of the tracks that have a slice. -/
theorem parseIsoDecodesEverySlice : Obligations.ParseIsoDecodesEverySlice := by
  intro ops s hm
  obtain ⟨hsub, hmem⟩ := filterMap_tracks_spec
    (g := fun t => (slice (ops.a.getD []) t).map (isoRecord s.params t))
    fun t r h => by obtain ⟨sl, -, rfl⟩ := Option.map_eq_some_iff.mp h; exact isoRecord_track _ _ _
  refine ⟨rfl, _, exec_parseIso ops hm, hsub, fun t r => (hmem t r).trans ?_⟩
  simp only [Option.map_eq_some_iff, isoRecord_eq_iff]

end Sys2Proof.Machine
end

section
/-! PROOFS. PARSE_ISO of the payload that BUILD_ISO makes: in a payload of valid texts the first marker of each track is
its section's, and the section's text is its slice (30_encoding.md R91; 41_track_codec.md R150-R162, R266). -/

namespace Sys2Proof.Machine

/-! ### Valid texts -/

/-- A character of a track is printable, in 20..5F (R36, R37): neither ESC nor FS nor a control byte. -/
theorem inCharset_printable {p : Config.Params} {t : Track} {b : Byte} (h : inCharset p t b = true) :
    0x20 ≤ b.toNat ∧ b.toNat ≤ 0x5F := by
  have hb := (inCharset_iff p t b).mp h
  split at hb
  · exact hb
  · obtain hb | rfl := hb
    · omega
    · decide

/-- A text of printable bytes, 20..5F: what a text of either character set is. -/
abbrev Printable (x : Bytes) : Prop := ∀ b ∈ x, 0x20 ≤ b.toNat ∧ b.toNat ≤ 0x5F

/-- The bytes of a valid text are printable (R145). -/
theorem printable_of_validate {p : Config.Params} {t : Track} {x : Bytes} (h : validate p t x = .none) :
    Printable x := by
  obtain ⟨-, hin⟩ := validate_eq_none_iff.mp h
  exact fun b hb => inCharset_printable (hin b hb)

/-- The record of a slice that is a valid text is valid and holds the text unchanged (R162). -/
theorem isoRecord_of_validate {p : Config.Params} {t : Track} {x : Bytes} (h : validate p t x = .none) :
    isoRecord p t x = ⟨t, x, true, .none⟩ := by
  have hkeep : x = x.filter fun b => 0x20 ≤ b.toNat ∧ b.toNat ≠ 0x7F := by
    refine (List.filter_eq_self.mpr fun b hb => ?_).symm
    have := printable_of_validate h b hb
    simp only [decide_eq_true_eq]
    omega
  rw [isoRecord_of_low_bytes p t (fun b hb => by have := printable_of_validate h b hb; omega) hkeep, h]
  rfl

/-! ### The end of a section -/

/-- Each of TERMS is two bytes: it starts with ESC or it is '?' FS. -/
theorem terms_pair {q : Bytes} (h : q ∈ terms) :
    ∃ a b, q = [a, b] ∧ (a = 0x1B#8 ∨ b = 0x1C#8) ∧ a ≠ 0x1C#8 := by
  simp only [terms, trackMarker, successMarker, failureMarker, terminator, List.mem_cons, List.not_mem_nil,
    or_false] at h
  obtain rfl | rfl | rfl | rfl | rfl | rfl := h <;> exact ⟨_, _, rfl, by decide, by decide⟩

/-- Nothing of TERMS stands within a printable text, nor across its end when one of TERMS follows it. -/
theorem not_terms_within {n rest q : Bytes} {j : Nat} (hn : Printable n) (hrest : ∃ r ∈ terms, r <+: rest)
    (hq : q ∈ terms) (hj : j < n.length) : ¬ q <+: (n ++ rest).drop j := by
  intro hpre
  obtain ⟨a, b, rfl, hab, -⟩ := terms_pair hq
  obtain ⟨ha, hb⟩ := pair_prefix_drop hpre
  rw [List.getElem?_append_left hj] at ha
  obtain rfl | rfl := hab
  · exact absurd (hn _ (List.mem_of_getElem? ha)) (by decide)
  · obtain hin | hend := Nat.lt_or_ge (j + 1) n.length
    · rw [List.getElem?_append_left hin] at hb
      exact absurd (hn _ (List.mem_of_getElem? hb)) (by decide)
    · obtain ⟨r, hr, tail, rfl⟩ := hrest
      obtain ⟨c, d, rfl, -, hc⟩ := terms_pair hr
      have hzero : j + 1 - n.length = 0 := by omega
      rw [List.getElem?_append_right hend, hzero] at hb
      exact hc (by simpa using hb)

/-- A section whose marker is the first one of its track, whose text is printable and which something of TERMS follows:
its text is the track's slice. -/
theorem slice_section {resp pre n rest : Bytes} {t : Track} (hresp : resp = pre ++ trackMarker t ++ n ++ rest)
    (hfind : find resp (trackMarker t) 0 = some pre.length) (hn : Printable n) (hrest : ∃ r ∈ terms, r <+: rest) :
    slice resp t = some n := by
  have hstart : (pre ++ trackMarker t).length = pre.length + 2 := by simp [trackMarker]
  have hdrop (k : Nat) : resp.drop (pre.length + 2 + k) = (n ++ rest).drop k := by
    rw [hresp, List.append_assoc, ← hstart, List.drop_length_add_append]
  have hend : sliceEnd resp (pre.length + 2) = pre.length + 2 + n.length := by
    refine sliceEnd_eq (Nat.le_add_right _ _) ?_ ?_ (.inr ?_)
    · rw [hresp, List.length_append, List.length_append, hstart]
      omega
    · intro j hj hlt q hq
      obtain ⟨k, rfl⟩ := Nat.exists_eq_add_of_le hj
      rw [hdrop]
      exact not_terms_within hn hrest hq (by omega)
    · rwa [hdrop, List.drop_left]
  refine slice_eq_some_iff.mpr ⟨pre.length, hfind, ?_⟩
  rw [hend, Nat.add_sub_cancel_left, ← Nat.add_zero (pre.length + 2), hdrop]
  simp

/-! ### The first marker of each track -/

/-- A track's marker is found at the start of its own section. -/
theorem findIn_marker_self (t : Track) (s : Bytes) : findIn (trackMarker t) (trackMarker t ++ s) = some 0 := by
  rw [trackMarker, List.cons_append, findIn, if_pos (by simp)]

/-- A marker is found behind a text without ESC. -/
theorem findIn_marker_text (t : Track) {n s : Bytes} (h : 0x1B#8 ∉ n) :
    findIn (trackMarker t) (n ++ s) = (findIn (trackMarker t) s).map (· + n.length) := by
  induction n with
  | nil => simp
  | cons b n ih =>
    simp only [List.mem_cons, not_or] at h
    obtain ⟨hb, hn⟩ := h
    have hno : ¬ (trackMarker t).isPrefixOf (b :: (n ++ s)) = true := by simp [trackMarker, hb]
    rw [List.cons_append, findIn, if_neg hno, ih hn, Option.map_map]
    rfl

/-- A marker is found behind a section of another one: `ESC y`, where `y` is neither the track's number nor ESC, and a
text without ESC. -/
theorem findIn_marker_section (t : Track) {y : Byte} {n s : Bytes} (hy : y ≠ t.byte) (hesc : y ≠ 0x1B#8)
    (hn : 0x1B#8 ∉ n) : findIn (trackMarker t) (0x1B#8 :: y :: (n ++ s)) =
      (findIn (trackMarker t) s).map (· + (n.length + 2)) := by
  have hno : ¬ (trackMarker t).isPrefixOf (0x1B#8 :: y :: (n ++ s)) = true := by simp [trackMarker, hy.symm]
  rw [findIn, if_neg hno, ← List.cons_append, findIn_marker_text t (by simpa [hesc.symm] using hn), Option.map_map]
  rfl

/-- A printable text does not hold ESC. -/
theorem esc_not_mem {n : Bytes} (hn : Printable n) : 0x1B#8 ∉ n :=
  fun h => absurd (hn _ h) (by decide)

/-- Where the first marker of each track stands in an ISO payload of texts without ESC (R91). -/
theorem find_marker_isoPayload {n1 n2 : Bytes} (n3 : Bytes) (h1 : 0x1B#8 ∉ n1) (h2 : 0x1B#8 ∉ n2) :
    find (isoPayload n1 n2 n3) (trackMarker .t1) 0 = some 2 ∧
    find (isoPayload n1 n2 n3) (trackMarker .t2) 0 = some (4 + n1.length) ∧
    find (isoPayload n1 n2 n3) (trackMarker .t3) 0 = some (6 + n1.length + n2.length) := by
  set s3 := trackMarker .t3 ++ (n3 ++ terminator) with hs3
  set s2 := trackMarker .t2 ++ (n2 ++ s3) with hs2
  set s1 := trackMarker .t1 ++ (n1 ++ s2) with hs1
  have hpayload : isoPayload n1 n2 n3 = 0x1B#8 :: 0x73#8 :: ([] ++ s1) := by simp [isoPayload, dataStart, s1, s2, s3]
  have hstart (t : Track) : find (isoPayload n1 n2 n3) (trackMarker t) 0 = (findIn (trackMarker t) s1).map (· + 2) := by
    rw [hpayload, find, List.drop_zero,
      findIn_marker_section t (by cases t <;> decide) (by decide) List.not_mem_nil, Option.map_map]
    rfl
  have hsection1 {t : Track} (ht : t ≠ .t1) :
      findIn (trackMarker t) s1 = (findIn (trackMarker t) s2).map (· + (n1.length + 2)) :=
    findIn_marker_section t (fun h => ht (track_byte_inj h.symm)) (track_byte_ne_esc _) h1
  have hsection2 {t : Track} (ht : t ≠ .t2) :
      findIn (trackMarker t) s2 = (findIn (trackMarker t) s3).map (· + (n2.length + 2)) :=
    findIn_marker_section t (fun h => ht (track_byte_inj h.symm)) (track_byte_ne_esc _) h2
  refine ⟨?_, ?_, ?_⟩
  · rw [hstart, hs1, findIn_marker_self]
    rfl
  · rw [hstart, hsection1 (by decide), hs2, findIn_marker_self]
    simp only [Option.map_some, Option.some.injEq]
    omega
  · rw [hstart, hsection1 (by decide), hsection2 (by decide), hs3, findIn_marker_self]
    simp only [Option.map_some, Option.some.injEq]
    omega

/-- The slices of an ISO payload of printable texts are its texts (R91, R160). -/
theorem slice_isoPayload {n1 n2 n3 : Bytes} (h1 : Printable n1) (h2 : Printable n2) (h3 : Printable n3) :
    slice (isoPayload n1 n2 n3) .t1 = some n1 ∧ slice (isoPayload n1 n2 n3) .t2 = some n2 ∧
      slice (isoPayload n1 n2 n3) .t3 = some n3 := by
  obtain ⟨hf1, hf2, hf3⟩ := find_marker_isoPayload n3 (esc_not_mem h1) (esc_not_mem h2)
  refine ⟨slice_section (pre := dataStart) (rest := trackMarker .t2 ++ (n2 ++ trackMarker .t3 ++ n3 ++ terminator))
      ?_ hf1 h1 ⟨_, trackMarker_mem_terms .t2, List.prefix_append _ _⟩,
    slice_section (pre := dataStart ++ trackMarker .t1 ++ n1) (rest := trackMarker .t3 ++ (n3 ++ terminator))
      ?_ (hf2.trans ?_) h2 ⟨_, trackMarker_mem_terms .t3, List.prefix_append _ _⟩,
    slice_section (pre := dataStart ++ trackMarker .t1 ++ n1 ++ trackMarker .t2 ++ n2) (rest := terminator)
      rfl (hf3.trans ?_) h3 ⟨terminator, by decide, List.prefix_rfl⟩⟩
  · simp [isoPayload]
  · simp [isoPayload]
  · simp [dataStart, trackMarker]
    omega
  · simp [dataStart, trackMarker]
    omega

/-- Settles O35: PARSE_ISO finds each track's text as its slice, and makes a valid record of it. -/
theorem parseIsoReadsBackBuildIso : Obligations.ParseIsoReadsBackBuildIso := by
  intro s x1 x2 x3 hm hv1 hv2 hv3
  refine ⟨_, _, exec_buildIso _ hm, exec_parseIso _ hm, ?_⟩
  obtain ⟨h1, h2, h3⟩ := slice_isoPayload (printable_of_validate hv1) (printable_of_validate hv2)
    (printable_of_validate hv3)
  simp [isoText, parseIso, h1, h2, h3, isoRecord_of_validate, hv1, hv2, hv3]

end Sys2Proof.Machine
end

section
/-! PROOFS. The codec operations as functions of their command and the parameters (41_track_codec.md R140), and
PARSE_ISO as the last command of HOST's read (42_command_catalog.md R211, R212). -/

namespace Sys2Proof.Machine

/-! ### No state in the codec -/

/-- The rule of a codec operation finishes at once, in a way that the latches and the parameters decide (R140). -/
theorem performOf_codec {o : OpCode} (ho : o ∈ [.normalize, .validate, .buildIso, .buildRaw, .parseIso, .parseRaw])
    {s s' : State} (hl : s.lat = s'.lat) (hp : s.params = s'.params) :
    ∃ st f, performOf o s = finish st f s ∧ performOf o s' = finish st f s' := by
  cases o
  case normalize =>
    simp only [performOf, performNormalize, hl, hp]
    split <;> exact ⟨_, _, rfl, rfl⟩
  case validate =>
    simp only [performOf, performValidate, hl, hp]
    split <;> exact ⟨_, _, rfl, rfl⟩
  case buildRaw =>
    simp only [performOf, performBuildRaw, hl]
    split <;> exact ⟨_, _, rfl, rfl⟩
  case buildIso | parseIso | parseRaw =>
    simp only [performOf, performBuildIso, performParseIso, performParseRaw, hl, hp]
    exact ⟨_, _, rfl, rfl⟩
  all_goals simp at ho

theorem opCodeOf_codec {i : Instr} (hi : Safety.isCodec i) :
    opCodeOf i ∈ [.normalize, .validate, .buildIso, .buildRaw, .parseIso, .parseRaw] := by
  obtain ⟨t, ops, rfl⟩ | ⟨t, ops, rfl⟩ | ⟨ops, rfl⟩ | ⟨ops, rfl⟩ | ⟨ops, rfl⟩ | ⟨ops, rfl⟩ := hi <;>
    simp [opCodeOf]

/-- A codec operation in IDLE latches its command and finishes at once, in a way that the command and the parameters
decide (R140). -/
theorem exec_codec {i : Instr} (hi : Safety.isCodec i) {s s' : State} (hm : s.mode = .idle) (hm' : s'.mode = .idle)
    (hp : s.params = s'.params) : ∃ lat res,
      exec i s = .next { s with lat := lat, res := res } ∧ exec i s' = .next { s' with lat := lat, res := res } := by
  have hfinish (st : Status) (f : ResultFields) {u : State} (hu : u.mode = .idle) :=
    finish_latch_of_idle st f (opCodeOf i).code (encode i).arg (encode i).ops hu
  simp only [exec_eq_accept]
  cases ha : (opCodeOf i).argLegal (encode i).arg with
  | false =>
    rw [accept_illegal hm ha, accept_illegal hm' ha, hfinish _ _ hm, hfinish _ _ hm']
    exact ⟨_, _, rfl, rfl⟩
  | true =>
    obtain ⟨st, f, hs, hs'⟩ := performOf_codec (opCodeOf_codec hi)
      (s := latch (opCodeOf i).code (encode i).arg (encode i).ops s)
      (s' := latch (opCodeOf i).code (encode i).arg (encode i).ops s') rfl hp
    rw [accept_legal hm ha, accept_legal hm' ha, hs, hs', hfinish _ _ hm, hfinish _ _ hm']
    exact ⟨_, _, rfl, rfl⟩

/-- Settles O36: both states take the latches and the result that the command and the parameters decide. -/
theorem codecIsStateless : Obligations.CodecIsStateless := by
  intro i s s' t t' hi hm hm' hp ht ht'
  obtain ⟨lat, res, hs, hs'⟩ := exec_codec hi hm hm' hp
  cases hs.symm.trans ht
  cases hs'.symm.trans ht'
  exact ⟨rfl, rfl, rfl⟩

/-! ### The last command of the read -/

/-- The response of a RECEIVE that classify accepts is its RES_BYTES: one that failed gave nothing, which classify
rejects (R210). -/
theorem responseOf_of_classify_success {op : Bytes} {res : ResultReg} (h : classify op (responseOf res) = .success) :
    responseOf res = res.bytes := by
  cases hok : res.ok with
  | true => exact responseOf_ok hok
  | false =>
    rw [responseOf_failed hok] at h
    simp [classify, find, findIn, successMarker, dataStart] at h

/-- A read whose PARSE_ISO took its records from RES_BYTES of the RECEIVE ends with the outcome of its SEND and its
RECEIVE (R211). -/
theorem readIsoNext_of_parsed {p : Config.Params} {sent received parsed : ResultReg}
    (h : parsed.recs = parseIso p received.bytes) :
    readIsoNext [sent, received, parsed] = .finished (readIsoOutcome p sent received) := by
  cases hs : sent.ok with
  | false => rw [readIsoNext_sendFailed _ hs, readIsoOutcome, hs]; rfl
  | true =>
    cases hc : classify [Config.esc, DevCmd.readIso.selector] (responseOf received) with
    | success =>
      rw [readIsoNext_parsed parsed hs hc, readIsoOutcome, hs, hc, h, responseOf_of_classify_success hc]
      rfl
    | fail st =>
      rw [readIsoNext_rejected _ hs hc, readIsoOutcome, hs, hc]
      rfl

/-- The instruction that `PARSE_ISO @RES` becomes when HOST presents it on a response (R85). -/
abbrev parseResponse (resp : Bytes) : Instr := .parseIso ⟨some resp, none, none⟩

/-- HOST's line `PARSE_ISO @RES` is presented with RES_BYTES as operand A (R85). -/
theorem resolveCommand_parseIsoLine {res : ResultReg} (hv : res.valid = true) :
    resolveCommand res parseIsoLine = some (encode (parseResponse res.bytes)) :=
  resolveCommand_eq_some (.inl hv)

/-- The state in which HOST has presented the response for parsing and BLOCK's step comes next (log 3, log 5). -/
abbrev parsePresented (ans : EmitAnswer) (ms : List Move) (s : State) : State :=
  { s with agenda := .block ans :: ms, port := [encode (parseResponse s.res.bytes)] }

/-- Settles O59: the first step presents PARSE_ISO of the response, the second runs it. -/
theorem parsingTheResponseCompletesTheRead : Obligations.ParsingTheResponseCompletesTheRead := by
  intro s sent ans ms hag hm hport hv
  have hpresent : step s = .next (parsePresented ans ms s) := by
    rw [step_of_agenda hag]
    simp [agentStep, hostPresent, resolveCommand_parseIsoLine hv, hport]
  have hrun := stepRunsTheDecodedInstruction (parsePresented ans ms s) _ [] ans ms (parseResponse s.res.bytes) rfl hm
    rfl (decode_encode rfl)
  exact ⟨_, _, hpresent, hrun.trans (exec_parseIso _ hm), hm, rfl, rfl, readIsoNext_of_parsed rfl⟩

end Sys2Proof.Machine
end

section
/-! PROOFS. The device command catalog: every row is a SEND of its opcode and data, and the data bytes of erase and
set-BPI (42_command_catalog.md R180-R206). -/

namespace Sys2Proof.Machine

/-! ### Messages of one report -/

/-- A payload of at most 63 bytes goes out as one report: header FIRST, LAST and its length, the payload, zeros
(R72, R75). -/
theorem frame_single {p : Bytes} (h : p.length ≤ 63) :
    frame p = [BitVec.ofNat 8 (0xC0 + p.length) :: (p ++ List.replicate (63 - p.length) 0x00#8)] := by
  have hcount : packetCount p.length = 1 := by rw [packetCount]; omega
  have hpacket : packet p 0 = BitVec.ofNat 8 (0xC0 + p.length) :: (p ++ List.replicate (63 - p.length) 0x00#8) := by
    rw [packet_eq, mkHeader_eq_ofNat _ _ (chunkLength_lt p 0)]
    simp [List.take_of_length_le h, Nat.min_eq_right h]
  rw [frame, hcount, List.range_one, List.map_singleton, hpacket]

/-! ### Device commands -/

/-- The instruction of a catalog row is put on the port as the row's SEND (R86, R180). -/
theorem encode_devCmd_instr (d : DevCmd) (data spare : Operand) :
    encode (d.instr data spare) = devCommand d data spare := by
  cases d <;> rfl

/-- A device command runs as the SEND of its opcode and data: the block does nothing more with it (R180). -/
theorem exec_devCmd_instr (d : DevCmd) (data spare : Operand) (s : State) :
    exec (d.instr data spare) s = exec (.send (catalogOperands d data spare)) s := by
  cases d <;> rfl

/-- A device command's message is 2 bytes longer than its data. -/
theorem length_sentMessage_catalogOperands (d : DevCmd) (data spare : Operand) :
    (sentMessage (catalogOperands d data spare)).length = 2 + (data.getD []).length := by
  rw [sentMessage, List.length_append]
  rfl

/-- A device command in IDLE whose message fits starts to transmit it (R110). -/
theorem exec_devCmd_starts (d : DevCmd) (data spare : Operand) {s : State} (hm : s.mode = .idle)
    (hw : Safety.within s.params.maxPayload (2 + (data.getD []).length)) :
    exec (d.instr data spare) s = .next (sendStarted (catalogOperands d data spare) s) := by
  rw [← length_sentMessage_catalogOperands d data spare] at hw
  rw [exec_devCmd_instr, exec_send_starts hm (.inr rfl) hw]

/-- A device command in IDLE whose message is above MAX_PAYLOAD finishes InvalidFormat (R110). -/
theorem exec_devCmd_oversize (d : DevCmd) (data spare : Operand) {s : State} (hm : s.mode = .idle)
    (hw : ¬ Safety.within s.params.maxPayload (2 + (data.getD []).length)) :
    exec (d.instr data spare) s = .next { s with
      lat := Safety.latched 0x03#8 0x00#8 (catalogOperands d data spare)
      res := Safety.invalidFormatResult 0x03#8 } := by
  rw [← length_sentMessage_catalogOperands d data spare] at hw
  obtain ⟨-, -, hoversize, -⟩ := sendAcceptanceFramesTheMessage (catalogOperands d data spare) s hm
  rw [exec_devCmd_instr, hoversize (.inr rfl) hw]

/-- A catalog row: its command, its acceptance when the message fits and when it does not, and the report of the bare
opcode (R181-R202). -/
theorem devCmd_isSent (d : DevCmd) (data spare : Operand) {s : State} (hm : s.mode = .idle) :
    encode (d.instr data spare) = ⟨0x0300#16, catalogOperands d data spare⟩ ∧
    (Safety.within s.params.maxPayload (2 + (data.getD []).length) →
      exec (d.instr data spare) s = .next (sendStarted (catalogOperands d data spare) s)) ∧
    (¬ Safety.within s.params.maxPayload (2 + (data.getD []).length) →
      exec (d.instr data spare) s = .next { s with
        lat := Safety.latched 0x03#8 0x00#8 (catalogOperands d data spare)
        res := Safety.invalidFormatResult 0x03#8 }) ∧
    frame [0x1B#8, d.selector] = [[0xC2#8, 0x1B#8, d.selector] ++ List.replicate 61 0x00#8] :=
  ⟨encode_devCmd_instr d data spare, exec_devCmd_starts d data spare hm, exec_devCmd_oversize d data spare hm,
    frame_single (p := [0x1B#8, d.selector]) (by simp)⟩

/-- The instruction and the selector of a catalog row. -/
def catalogRow (data spare : Operand) (d : DevCmd) : Instr × Byte := (d.instr data spare, d.selector)

/-- The first eleven rows of the catalog (R181-R191). -/
def queryAndLedCommands : List DevCmd :=
  [.devReset, .testComm, .testRam, .testSensor, .getFirmware, .ledAllOff, .ledAllOn, .ledGreen, .ledYellow, .ledRed,
    .readIso]

/-- The other eleven rows of the catalog (R192-R202). -/
def writeAndSettingCommands : List DevCmd :=
  [.readRaw, .writeIso, .writeRaw, .erase, .setHico, .setLoco, .getCoercivity, .setBpi, .setBpc, .setLeadingZero,
    .getLeadingZero]

/-- Settles O13: the list is that of eleven catalog rows, each of which is sent. -/
theorem deviceQueriesAndLedsAreSent : Obligations.DeviceQueriesAndLedsAreSent := by
  intro data spare s hm p hp
  obtain ⟨d, -, rfl⟩ : ∃ d ∈ queryAndLedCommands, catalogRow data spare d = p := List.mem_map.mp hp
  exact devCmd_isSent d data spare hm

/-- Settles O14: the list is that of the other eleven catalog rows, each of which is sent. -/
theorem deviceWritesAndSettingsAreSent : Obligations.DeviceWritesAndSettingsAreSent := by
  intro data spare s hm p hp
  obtain ⟨d, -, rfl⟩ : ∃ d ∈ writeAndSettingCommands, catalogRow data spare d = p := List.mem_map.mp hp
  exact devCmd_isSent d data spare hm

/-! ### The data of erase and set-BPI -/

/-- Track 1 weighs 1, track 2 weighs 2, track 3 weighs 4 (R205). -/
theorem eraseMask_toNat : ∀ e1 e2 e3 : Bool,
    (eraseMask e1 e2 e3).toNat = e1.toNat + 2 * e2.toNat + 4 * e3.toNat := by decide

/-- Settles O52: the mask's weights, the code of each density, and messages of 3 and 4 bytes in one report. -/
theorem eraseMaskAndBpiDataBytes : Obligations.EraseMaskAndBpiDataBytes := by
  refine ⟨fun e1 e2 e3 => ⟨eraseMask_toNat e1 e2 e3, frame_single (by simp)⟩, fun p hp q hq => ?_⟩
  have hdata : bpiData p.1 q.1 = [p.2, q.2] := by
    revert p q
    decide
  exact ⟨hdata, by rw [hdata]; exact frame_single (by simp)⟩

end Sys2Proof.Machine
end

section
/-! PROOFS. HOST's functions over results: classify, the read's outcome, compare, copy and the uniform result
(42_command_catalog.md R210-R213). -/

namespace Sys2Proof.Machine

/-! ### classify -/

/-- A pattern is not found in anything shorter than itself. -/
theorem find_eq_none_of_length_lt {s p : Bytes} {a : Nat} (h : s.length < p.length) : find s p a = none := by
  have hp : p ≠ [] := List.ne_nil_of_length_pos (by omega)
  refine (find_eq_none_iff hp).mpr fun j _ hj => ?_
  have hle := hj.length_le
  rw [List.length_drop] at hle
  omega

/-- R210's length test alone accepts every response of 2 bytes or more. -/
theorem classify_of_two_le (op : Bytes) {resp : Bytes} (h : 2 ≤ resp.length) : classify op resp = .success := by
  simp [classify, h]

/-- Both of R210's markers have 2 bytes, so a response of one byte holds neither. -/
theorem classify_of_length_one (op : Bytes) {resp : Bytes} (h : resp.length = 1) :
    classify op resp = .fail .unknownStatus := by
  have hsuccess : find resp successMarker 0 = none := find_eq_none_of_length_lt (by rw [h]; decide)
  have hdata : find resp dataStart 0 = none := find_eq_none_of_length_lt (by rw [h]; decide)
  simp [classify, hsuccess, hdata, h]

/-- No response: the failure that R210 gives for the opcode. -/
theorem classify_nil (op : Bytes) :
    classify op [] = .fail (if isCardOpcode op then .noCardSwipe else .unknownStatus) := rfl

/-- The length decides between success and failure (R210). -/
theorem classify_eq_success_iff (op resp : Bytes) : classify op resp = .success ↔ 2 ≤ resp.length := by
  refine ⟨fun h => ?_, classify_of_two_le op⟩
  by_contra hshort
  obtain hlen | hlen : resp.length = 0 ∨ resp.length = 1 := by omega
  · rw [List.length_eq_zero_iff.mp hlen, classify_nil] at h
    cases h
  · rw [classify_of_length_one op hlen] at h
    cases h

/-- The five card commands by their opcodes (R210). -/
theorem isCardOpcode_iff (op : Bytes) : isCardOpcode op = true ↔
    op ∈ [[0x1B#8, 0x72#8], [0x1B#8, 0x6D#8], [0x1B#8, 0x77#8], [0x1B#8, 0x6E#8], [0x1B#8, 0x63#8]] :=
  decide_eq_true_iff

/-- Settles O49: the length decides, and for an empty response the opcode. -/
theorem classifyIsPermissive : Obligations.ClassifyIsPermissive := by
  intro op resp
  refine ⟨classify_eq_success_iff op resp, classify_of_length_one op, fun hempty hop => ?card,
    fun hempty hop => ?other⟩
  case card => rw [hempty, classify_nil, if_pos ((isCardOpcode_iff op).mpr hop)]
  case other => rw [hempty, classify_nil, if_neg (mt (isCardOpcode_iff op).mp hop)]

/-! ### The uniform result and the read's outcome -/

/-- Settles O56: the fields of the uniform result by definition, the response by RES_OK. -/
theorem uniformResultIsTheResultRegister : Obligations.UniformResultIsTheResultRegister :=
  fun _ => ⟨rfl, responseOf_ok, responseOf_failed⟩

theorem readIsoOutcome_sendFailed (p : Config.Params) {sent : ResultReg} (received : ResultReg) (h : sent.ok = false) :
    readIsoOutcome p sent received = .failed sent.status := by
  simp [readIsoOutcome, h]

theorem readIsoOutcome_accepted (p : Config.Params) {sent received : ResultReg} (h : sent.ok = true)
    (hc : classify [0x1B#8, 0x72#8] (responseOf received) = .success) :
    readIsoOutcome p sent received = .records (parseIso p (responseOf received)) := by
  simp [readIsoOutcome, h, DevCmd.selector, hc]

theorem readIsoOutcome_rejected (p : Config.Params) {sent received : ResultReg} (h : sent.ok = true) {st : Status}
    (hc : classify [0x1B#8, 0x72#8] (responseOf received) = .fail st) :
    readIsoOutcome p sent received = .failed st := by
  simp [readIsoOutcome, h, DevCmd.selector, hc]

/-- Settles O57: the SEND's result decides first, then what classify says of the RECEIVE's response. -/
theorem readIsoOutcomeFollowsTheResults : Obligations.ReadIsoOutcomeFollowsTheResults := by
  intro p sent received
  refine ⟨readIsoOutcome_sendFailed p received, fun hs hr hlen => ?parsed, fun hs hr hlen => ?oneByte,
    fun hs hnone => ?noResponse⟩
  case parsed =>
    have hresp := responseOf_ok hr
    rw [readIsoOutcome_accepted p hs (classify_of_two_le _ (hresp ▸ hlen)), hresp]
  case oneByte =>
    exact readIsoOutcome_rejected p hs (classify_of_length_one _ (responseOf_ok hr ▸ hlen))
  case noResponse =>
    have hresp : responseOf received = [] := by
      obtain hr | hbytes := hnone
      · exact responseOf_failed hr
      · simp [responseOf, hbytes]
    exact readIsoOutcome_rejected p hs (by rw [hresp]; rfl)

/-! ### compare and copy -/

/-- The operand that copy writes for a track is the data of the track's first record (log 24). -/
theorem copyOperand_eq_firstData (recs : List TrackRecord) (t : Track) :
    copyOperand recs t = Safety.firstData t recs := by
  induction recs with
  | nil => rfl
  | cons r recs ih =>
    by_cases h : r.track = t
    · simp [copyOperand, recordOf, Safety.firstData, h]
    · simpa [copyOperand, recordOf, Safety.firstData, h] using ih

/-- Settles O51: the lines of `WRITE_ISO` with each track's first data. -/
theorem copyWritesTheReadTexts : Obligations.CopyWritesTheReadTexts := by
  refine ⟨fun recs => ?_, fun _ => rfl⟩
  simp only [← copyOperand_eq_firstData]
  rfl

/-- An expectation lists its texts track by track. -/
theorem mem_expected_iff {x1 x2 x3 : Option Bytes} {t : Track} {e : Bytes} :
    (t, some e) ∈ [(Track.t1, x1), (.t2, x2), (.t3, x3)] ↔ TrackTexts.get ⟨x1, x2, x3⟩ t = some e := by
  cases t <;> simp [TrackTexts.get, eq_comm]

/-- A track mismatches when a text is expected and the track's first data are not its normalized form (R211). -/
theorem mismatched_iff {p : Config.Params} {x : TrackTexts} {recs : List TrackRecord} {t : Track} :
    mismatched p x recs t = true ↔ ∃ e, x.get t = some e ∧ Safety.firstData t recs ≠ .bytes (norm p t e) := by
  rw [← copyOperand_eq_firstData, mismatched, copyOperand]
  cases x.get t with
  | none => simp
  | some e => cases recordOf recs t <;> simp

/-- The tracks that mismatch, in increasing order (R211). -/
def mismatches (p : Config.Params) (x : TrackTexts) (recs : List TrackRecord) : List Track :=
  [Track.t1, .t2, .t3].filter (mismatched p x recs)

theorem mem_mismatches_iff {p : Config.Params} {x : TrackTexts} {recs : List TrackRecord} {t : Track} :
    t ∈ mismatches p x recs ↔ mismatched p x recs t = true := by
  cases t <;> simp [mismatches]

theorem mismatches_eq_nil_iff {p : Config.Params} {x : TrackTexts} {recs : List TrackRecord} :
    mismatches p x recs = [] ↔ ∀ t e, x.get t = some e → Safety.firstData t recs = .bytes (norm p t e) := by
  simp only [List.eq_nil_iff_forall_not_mem, mem_mismatches_iff, mismatched_iff]
  simp

/-- compare on records is a success without mismatches, and otherwise answers their list (R211). -/
theorem compareTracks_records (p : Config.Params) (x : TrackTexts) (recs : List TrackRecord) :
    compareTracks p x (.records recs) =
      if mismatches p x recs = [] then .success else .mismatch (mismatches p x recs) := by
  simp [compareTracks, mismatches]

/-- Settles O50: compare answers `mismatches`, whose members are the expected tracks without the normalized text. -/
theorem compareListsEveryMismatch : Obligations.CompareListsEveryMismatch := by
  intro p x1 x2 x3 recs
  simp only [mem_expected_iff, compareTracks_records]
  refine ⟨?success, fun ⟨t, e, he⟩ => ?mismatch, fun _ => ⟨rfl, rfl⟩, rfl⟩
  case success =>
    rw [← mismatches_eq_nil_iff]
    split <;> simp_all
  case mismatch =>
    have hne : mismatches p ⟨x1, x2, x3⟩ recs ≠ [] :=
      List.ne_nil_of_mem (mem_mismatches_iff.mpr (mismatched_iff.mpr ⟨e, he⟩))
    exact ⟨_, if_neg hne, rfl, List.filter_sublist, fun t => mem_mismatches_iff.trans mismatched_iff⟩

/-! ### The commands of copy and compare -/

theorem copyNext_of_present {results : List ResultReg} {line : HostCommand} (h : readIsoNext results = .present line) :
    copyNext results = .present line := by
  rw [copyNext, h]

theorem copyNext_of_finished {results : List ResultReg} {outcome : ReadOutcome}
    (h : readIsoNext results = .finished outcome) : copyNext results = copyTracks outcome := by
  rw [copyNext, h]

theorem compareNext_of_present (p : Config.Params) (x : TrackTexts) {results : List ResultReg} {line : HostCommand}
    (h : readIsoNext results = .present line) : compareNext p x results = .present line := by
  rw [compareNext, h]

theorem compareNext_of_finished (p : Config.Params) (x : TrackTexts) {results : List ResultReg} {outcome : ReadOutcome}
    (h : readIsoNext results = .finished outcome) :
    compareNext p x results = .done (compareTracks p x outcome) := by
  rw [compareNext, h]

/-- Settles O58: copy and compare do what the read does next, and with its outcome their own part. -/
theorem copyAndCompareReadFirst : Obligations.CopyAndCompareReadFirst := by
  intro p x sent received parsed
  refine ⟨⟨rfl, rfl⟩, fun hs => ?sendFailed, fun hs => ⟨?copySent, ?compareSent, fun st hc => ?rejected,
    fun hc => ⟨?copyReceived, ?compareReceived, ?copyParsed, ?compareParsed⟩⟩⟩
  case sendFailed =>
    have hnext := readIsoNext_sendFailed [] hs
    exact ⟨copyNext_of_finished hnext, compareNext_of_finished p x hnext⟩
  case copySent => exact copyNext_of_present (readIsoNext_sent hs)
  case compareSent => exact compareNext_of_present p x (readIsoNext_sent hs)
  case rejected =>
    have hnext := readIsoNext_rejected [] hs hc
    exact ⟨copyNext_of_finished hnext, compareNext_of_finished p x hnext⟩
  case copyReceived => exact copyNext_of_present (readIsoNext_received hs hc)
  case compareReceived => exact compareNext_of_present p x (readIsoNext_received hs hc)
  case copyParsed => exact copyNext_of_finished (readIsoNext_parsed parsed hs hc)
  case compareParsed => exact compareNext_of_finished p x (readIsoNext_parsed parsed hs hc)

end Sys2Proof.Machine
end

section
/-! PROOFS. That no instruction and no move stops, but for HOST's read of a result that is not valid
(60_exceptions.md R240; 10_state.md R31), and the codes that HOST reads (60_exceptions.md R230; 10_state.md R21, R39). -/

namespace Sys2Proof.Machine

/-! ### BLOCK's moves go through -/

/-- The acceptance of an operation is held, refused or performed, and goes through in each case (R101, R102, R232). -/
theorem accept_next (o : OpCode) (arg : Byte) (ops : Operands) (f : State → State) (s : State) :
    ∃ t, accept o arg ops f s = .next t := by
  by_cases hm : s.mode = .idle
  · cases ha : o.argLegal arg with
    | true => exact ⟨_, accept_legal hm ha⟩
    | false => exact ⟨_, accept_illegal hm ha⟩
  · exact ⟨s, accept_busy hm⟩

/-- Settles O40: every instruction is the acceptance of an operation. -/
theorem instructionsNeverTrap : Obligations.InstructionsNeverTrap := by
  intro i s
  rw [exec_eq_accept]
  exact accept_next _ _ _ _ s

/-- The acceptance of a word that is no instruction goes through too, held or finished (R84, R101). -/
theorem acceptRejected_next (op arg : Byte) (ops : Operands) (st : Status) (s : State) :
    ∃ t, acceptRejected op arg ops st s = .next t := by
  by_cases hm : s.mode = .idle
  · exact ⟨_, acceptRejected_idle hm⟩
  · exact ⟨s, by simp [acceptRejected, hm]⟩

/-- BLOCK's acceptance goes through on any port, whatever the command at its head decodes to (R84, R102). -/
theorem acceptStep_next (s : State) : ∃ t, acceptStep s = .next t := by
  cases hp : s.port with
  | nil => exact ⟨s, by simp [acceptStep, hp]⟩
  | cons c rest =>
    cases hd : decode c with
    | instr i =>
      rw [acceptStep_of_decode hp hd]
      exact instructionsNeverTrap i _
    | reservedOp op =>
      simpa [acceptStep, hp, hd] using acceptRejected_next op c.arg c.ops .illegalOperation { s with port := rest }
    | illegalArg op arg =>
      simpa [acceptStep, hp, hd] using acceptRejected_next op arg c.ops .invalidFormat { s with port := rest }

/-- A transmit step with a report at TX_IDX goes through on either answer of ENV (R24, R111). -/
theorem txStep_next (ans : EmitAnswer) {s : State} (h : s.txIdx < s.txPkts.length) : ∃ t, txStep ans s = .next t := by
  have hr : s.txPkts[s.txIdx]? = some s.txPkts[s.txIdx] := List.getElem?_eq_getElem h
  cases ans with
  | fail => simp [txStep, hr]
  | ok =>
    by_cases hlast : s.txIdx + 1 = s.txPkts.length <;> simp [txStep, hr, hlast]

/-- A report step waits or takes a report (R116; log 9). -/
theorem rxStep_next (s : State) : ∃ t, rxStep s = .next t := by
  cases hp : pop s with
  | none => simp [rxStep, hp]
  | some popped => simp [rxStep, hp]

/-- BLOCK's step goes through in every MODE: R24's invariant gives the transmit step its report. -/
theorem blockStep_next (ans : EmitAnswer) {s : State} (h : Safety.Inv s) : ∃ t, blockStep ans s = .next t := by
  cases hm : s.mode with
  | idle => simpa only [blockStep, hm] using acceptStep_next s
  | tx => simpa only [blockStep, hm] using txStep_next ans (h.txInRange hm)
  | rx => simpa only [blockStep, hm] using rxStep_next s

/-! ### Every agent's move -/

/-- From `s` the outcome is a next state, or R31's model fault while RES_VALID = 0. -/
def StopsOnlyUnreadable (s : State) (o : Host.Outcome State Fault Refusal) : Prop :=
  (∃ t, o = .next t) ∨ (s.res.valid = false ∧ ∃ sel, o = .fault (.resultNotValid sel))

/-- It is a safe outcome, and R31's fault says that RES_VALID = 0. -/
theorem stopsOnlyUnreadable_iff {s : State} {o : Host.Outcome State Fault Refusal} :
    StopsOnlyUnreadable s o ↔
      Safety.SafeOutcome o ∧ ∀ sel, o = .fault (.resultNotValid sel) → s.res.valid = false := by
  constructor
  · rintro (⟨t, rfl⟩ | ⟨hv, sel, rfl⟩)
    · exact ⟨.inl ⟨t, rfl⟩, nofun⟩
    · exact ⟨.inr ⟨sel, rfl⟩, fun _ _ => hv⟩
  · rintro ⟨hnext | ⟨sel, hf⟩, hv⟩
    · exact .inl hnext
    · exact .inr ⟨hv sel hf, sel, hf⟩

@[simp] theorem nextMove_res (s : State) : (nextMove s).2.res = s.res := by
  obtain ⟨m, ms, -, h⟩ | ⟨-, h⟩ := nextMove_cases s <;> simp [h]

theorem hostRead_stops (sel : ReadSel) (s : State) : StopsOnlyUnreadable s (hostRead sel s) := by
  obtain ⟨-, hn⟩ | ⟨-, hv, hf⟩ := hostRead_cases (sel := sel) (s := s)
  · exact .inl ⟨_, hn⟩
  · exact .inr ⟨hv, _, hf⟩

theorem hostPresent_stops (line : HostCommand) (s : State) : StopsOnlyUnreadable s (hostPresent line s) := by
  obtain ⟨c, -, hn⟩ | ⟨hres, hf⟩ := hostPresent_cases (line := line) (s := s)
  · exact .inl ⟨_, hn⟩
  · obtain ⟨hv, -⟩ := (resolveCommand_eq_none_iff s.res line).mp hres
    exact .inr ⟨hv, _, hf⟩

/-- Of all the moves only HOST's read and HOST's presenting can stop. -/
theorem agentStep_stops {s : State} (h : Safety.Inv s) (m : Move) : StopsOnlyUnreadable s (agentStep m s) := by
  cases m with
  | present line => exact hostPresent_stops line s
  | read sel => exact hostRead_stops sel s
  | append r => exact .inl ⟨_, rfl⟩
  | deadline => exact .inl ⟨_, rfl⟩
  | block ans => exact .inl (blockStep_next ans h)
  | linkOpen q => exact .inl ⟨_, rfl⟩

/-- Settles O39: drawing the next move keeps the invariant and the result register, and then one agent moves. -/
theorem stepStopsOnlyAtAnUnreadableResult : Obligations.StepStopsOnlyAtAnUnreadableResult := by
  intro s h
  have hmove : StopsOnlyUnreadable (nextMove s).2 (step s) := agentStep_stops (nextMove_keeps_inv h) (nextMove s).1
  simpa using stopsOnlyUnreadable_iff.mp hmove

/-! ### Codes -/

/-- Settles O53: the codes are those of the tables of R230, R39 and R21, by definition. -/
theorem statusAndErrorCodes : Obligations.StatusAndErrorCodes := ⟨rfl, rfl, rfl⟩

end Sys2Proof.Machine
end

section
/-! PROOFS. Reset and hazards: what opening the Link leaves of a state, and that no valid text holds a delimiter
(70_reset_and_hazards.md R260, R261, R266). -/

namespace Sys2Proof.Machine

/-! ### Opening the Link -/

/-- The block's fields are those of reset, with IN_Q as ENV chose; what is not the block's stays (log 13). -/
theorem linkOpen_eq_reset (q : List Bytes) (s : State) :
    linkOpen q s = { State.reset with
      inQ := q, params := s.params, port := s.port, agenda := s.agenda, tick := s.tick, out := s.out, seen := s.seen } :=
  rfl

/-- Settles O46: the step is the opening of the Link, after which only what is not the block's is left. -/
theorem linkOpenAbandonsTheOperation : Obligations.LinkOpenAbandonsTheOperation := by
  intro s q ms hag
  calc step s = .next (linkOpen q { s with agenda := ms }) := step_of_agenda hag
    _ = _ := congrArg _ (linkOpen_eq_reset q _)

/-! ### Delimiters in a text -/

/-- A text that holds a byte outside 20..5F, as no character set does, is valid on no track (R36, R37, R145). -/
theorem validate_ne_none_of_not_printable {p : Config.Params} {t : Track} {s : Bytes} {b : Byte} (hb : b ∈ s)
    (hout : ¬ (0x20 ≤ b.toNat ∧ b.toNat ≤ 0x5F)) : validate p t s ≠ .none :=
  fun hvalid => hout (printable_of_validate hvalid b hb)

/-- ESC and FS are control bytes, below 20. -/
theorem validate_ne_none_of_esc_or_fs {p : Config.Params} {t : Track} {s : Bytes}
    (h : 0x1B#8 ∈ s ∨ 0x1C#8 ∈ s) : validate p t s ≠ .none := by
  obtain hesc | hfs := h
  · exact validate_ne_none_of_not_printable hesc (by decide)
  · exact validate_ne_none_of_not_printable hfs (by decide)

/-- Each delimiter pair of R266 holds ESC or FS. -/
theorem esc_or_fs_mem_delimiter :
    ∀ d ∈ [0x1B#8, 0x73#8] :: Safety.terminators, 0x1B#8 ∈ d ∨ 0x1C#8 ∈ d := by decide

/-- Settles O27: a delimiter pair brings its ESC or FS into every text around it. -/
theorem delimiterTextIsNeverValid : Obligations.DelimiterTextIsNeverValid := by
  refine ⟨fun p t s h => validate_ne_none_of_esc_or_fs h, fun p t u v d hd => ?_⟩
  have hsub : d ⊆ u ++ d ++ v := fun b hb => by simp [hb]
  exact validate_ne_none_of_esc_or_fs ((esc_or_fs_mem_delimiter d hd).imp (@hsub _) (@hsub _))

end Sys2Proof.Machine
end
